-- ==== Sys2Proof/Word.lean ====
section
/-! DEFINITION. The word and byte of the J582's 16-bit bus (spec/11, R180) and their plainest arithmetic. -/

namespace Sys2Proof

/-- A word of the bus: 16 bits (R180). -/
abbrev Word := BitVec 16

/-- One byte lane of the bus (R180). -/
abbrev Byte := BitVec 8

/-- The word whose high and low byte lanes are given. -/
def Word.ofBytes (hi lo : Byte) : Word := hi ++ lo

/-- The low byte lane of a word. -/
def Word.lo (w : Word) : Byte := w.setWidth 8

/-- The high byte lane of a word. -/
def Word.hi (w : Word) : Byte := (w >>> 8).setWidth 8

end Sys2Proof
end

