-- ==== Sys2Proof/Config.lean ====
section
/-! DEFINITION. Config: the values the spec leaves open. Each is a constant with no body, so nothing can be proved about it. -/

namespace Sys2Proof

/-- Free value: the 16-bit value of a completion whose value the spec does not state (a refused FOCUS ON,
R51). It is applied to State.freeCount, which every use advances. DESIGN CHOICE: the spec states no value there; log 8. -/
opaque Config.unstatedValue : Nat → Word

/-- Free value: the sub-count of the angle estimate (R110) while the latest interval T is absent, where the quotient of
R110 has no divisor. It depends on the edge counter and on the time since the latest edge. DESIGN CHOICE: the spec
states no value there; log 9. -/
opaque Config.subWithoutInterval : Nat → Nat → Nat

/-- Free value: the count of the carrier period at which the spindle output enable is cleared (R171, R172), taken modulo the
2048 counts of a period. It is applied to State.freeCount, which every such clear advances. DESIGN CHOICE: no event carries
that count; log 20. -/
opaque Config.clearMoment : Nat → Nat

end Sys2Proof
end

