-- ==== Sys2Proof/Types.lean ====
section
/-! DEFINITION. The named values, records and messages of the spec that commands carry and that State holds. -/

namespace Sys2Proof

/-! ## Loops (spec/02) -/

/-- One of the two loop contexts (section 2.1). -/
inductive LoopId where
  | focus | track
deriving DecidableEq, Repr

/-- The loops a request is for; R18 and R100 send one request to both. -/
inductive LoopTarget where
  | focus | track | both
deriving DecidableEq, Repr

/-- Loop states (Table 2-2), in the order of the table. `opened` is OPEN. -/
inductive LoopState where
  | off | opened | closed | hold
deriving DecidableEq, Repr

/-- The requests of the Position Controller to a loop (R16). -/
inductive PosReq where
  | off
  | openWith (drive : Int)
  | drive (drive : Int)
  | close
deriving DecidableEq, Repr

/-- A request that waits for the loop's next sample (R16). -/
inductive PendingReq where
  | off
  | openWith (drive : Int)
  | close
deriving DecidableEq, Repr

/-- Hold sources (R18). -/
inductive HoldSource where
  | defect | predict | supply
deriving DecidableEq, Repr

/-- Gain sets (R22). -/
inductive GainSet where
  | normal | shock
deriving DecidableEq, Repr

/-- Requests of the Position Controller to the sled (R35). -/
inductive SledReq where
  | driven (duty : Int)
  | toLoop
deriving DecidableEq, Repr

/-- The groups that wait for a loop sample (R36). -/
inductive LoopGroup where
  | focus | track | sled
deriving DecidableEq, Repr

/-- The parts of the parameter groups, one for each owner (R185): groups 0 to 5, group 6 by its two owners, group 7, group 8 by
its three owners, and group 9. -/
inductive GroupPart where
  | focus | track | sled | spindle | defect | shock | position | recovery | supply | loading | notice | capture | temperature
deriving DecidableEq, Repr

/-! ## States of the blocks -/

/-- Position states (Table 3-1), in the order of the codes of R191. -/
inductive PositionState where
  | idle | focusSearch | focusLocking | focused | trackPullin | onTrack
  | jumping | seeking | seekBrake | settling | parking
deriving DecidableEq, Repr

/-- Spindle states (Table 7-3), in the order of the table. -/
inductive SpindleState where
  | stopped | starting | slewing | regulating | braking | coasting | fault
deriving DecidableEq, Repr

/-- Loading states (Table 9-1), in the order of their codes. -/
inductive LoadingState where
  | startEval | restoring | empty | inserting | clamping | loaded | unloadWait | ejecting | presented | jammed
deriving DecidableEq, Repr

/-- Recovery states (section 8). -/
inductive RecoveryState where
  | idle | active | failed
deriving DecidableEq, Repr

/-- Supply states (R175); the absent state is `none` of an Option. -/
inductive SupplyState where
  | ok | dip | low
deriving DecidableEq, Repr

/-! ## Conditions, notices, results, triggers -/

/-- The eight conditions (Table 8-1), in the order of their R.MASK bits. -/
inductive Condition where
  | supplyLow | spindleFault | focusLost | holdTimeout | focusLimit | trackSlip | trackLimit | seekFailed
deriving DecidableEq, Repr

/-- The eight notice kinds (Table 11-8), in the order of their bits. -/
inductive NoticeKind where
  | cmdDone | condition | recoveryEnd | referenceNeeded | loading | supply | captureDone | discAlert
deriving DecidableEq, Repr

/-- Result codes (Table 11-4), in the order of their codes. -/
inductive Result where
  | ok | okClamped | busy | notReady | badArgument | unknownCommand | queueFull | superseded
  | interrupted | timeout | notFound | seekFailed | flushed | noDisc | wrongSlot
deriving DecidableEq, Repr

/-- The trigger events other blocks send to the Trace Capture Unit (R192, bits 0 to 2). -/
inductive TriggerSource where
  | condition | defectOpen | shockStart
deriving DecidableEq, Repr

/-- The outcome an owner reports for a request of the Recovery Controller (R39, R139). -/
inductive StepOutcome where
  | done | failed
deriving DecidableEq, Repr

/-! ## Outputs (spec/07 section 7.2, spec/10) -/

/-- The five channels (R169). -/
inductive Channel where
  | focus | track | sled | load | spindle
deriving DecidableEq, Repr

/-- The spindle pattern (R111): coast, short-brake, or forward or reverse for a Hall state (Table 7-2). -/
inductive Pattern where
  | coast | shortBrake
  | forward (hall : BitVec 3)
  | reverse (hall : BitVec 3)
deriving DecidableEq, Repr

/-- What an owner delivers to a channel (R169). -/
inductive Delivery where
  | focus (duty : Int)
  | track (duty : Int)
  | sled (duty : Int)
  | load (duty : Int)
  | spindle (pattern : Pattern) (magnitude : Int)
deriving DecidableEq, Repr

/-! ## Signals -/

/-- Raw levels of the slot switches and of SLED_HOME (spec/00 section 1.9); true is asserted. -/
structure Pins where
  entry : Bool
  centre : Bool
  clamp : Bool
  home : Bool
  sledHome : Bool
deriving DecidableEq, Repr

/-- One instant's raw conversions (R2, R4) with the switch levels of that instant. -/
structure RawSet where
  fe : Int
  te : Int
  rs : Int
  sh : Int
  sc : Int
  sp : Int
  tm : Int
  pins : Pins
deriving DecidableEq, Repr

/-- SP (10 mV units) and TM as delivered with a refresh set (R4). -/
structure Refresh where
  sp : Int
  tm : Int
deriving DecidableEq, Repr

/-- A sample set as handed to the blocks (R1, R2, R4). -/
structure SampleSet where
  stamp : Word
  fe : Int
  te : Int
  rs : Int
  sh : Int
  sc : Int
  refresh : Option Refresh
deriving DecidableEq, Repr

/-! ## Bus (spec/11) -/

/-- Which byte lanes a bus cycle strobes (R180). -/
structure Lanes where
  lo : Bool
  hi : Bool
deriving DecidableEq, Repr

/-- A posted command: the image of the eight words of its slot (Table 11-2, R181); `urgent` tells slot 15. -/
structure Posted where
  code : Byte
  option : Byte
  w1 : Word
  w2 : Word
  w3 : Word
  w4 : Word
  w5 : Word
  w6 : Word
  tag : Byte
  urgent : Bool
deriving DecidableEq, Repr

/-- A completion record (Table 11-5). -/
structure CompletionRec where
  tag : Byte
  code : Byte
  result : Result
  value : Word
deriving DecidableEq, Repr

/-! ## Reports -/

/-- Reports of the Loop Processor to the Position Controller (R32, R40). `asked` tells that the OFF reported was taken from an
OFF request of the Position Controller (R47, log 15). -/
inductive LoopReport where
  | state (loop : LoopId) (st : LoopState) (asked : Bool)
  | focusIn
  | focusOut
deriving DecidableEq, Repr

/-- The other neighbours' reports to the Position Controller (R40). -/
inductive NeighbourReport where
  | holdSource (held : Bool)
  | loading (st : LoadingState)
  | spindle (st : SpindleState)
  | laser (on : Bool)
  | calibration (running : Bool)
  | recovery (st : RecoveryState)
deriving DecidableEq, Repr

/-- Reports to the Defect Monitor (R77, R84, R161). -/
inductive DefectReport where
  | position (st : PositionState)
  | counter (value : Nat) (valid : Bool)
  | angleValid (valid : Bool)
  | loading (st : LoadingState)
deriving DecidableEq, Repr

/-- Reports of the hold-source flag and of the angle valid flag to the Recovery Controller (R148). -/
inductive HoldReport where
  | holdSource (held : Bool)
  | angleValid (valid : Bool)
deriving DecidableEq, Repr

/-- The other reports to the Recovery Controller (R132, R116). -/
inductive RecoveryReport where
  | position (st : PositionState)
  | counter (value : Nat) (valid : Bool)
  | supply (st : SupplyState)
  | loading (st : LoadingState)
  | spindle (st : SpindleState)
deriving DecidableEq, Repr

/-- Reports to the Loading Controller (R163). -/
inductive LoadingReport where
  | spindle (st : SpindleState)
  | actuatorEnable (set : Bool)
deriving DecidableEq, Repr

end Sys2Proof
end

