-- ==== Sys2Proof/Syntax.lean ====
section
/-! DEFINITION. Syntax: one constructor of Instr for each row of spec/opcode_table.json. The table gives no operands; a
constructor carries what the spec says the event carries. -/

namespace Sys2Proof

/-- The commands: the steps of the part (spec/opcode_table.json, spec/95). -/
inductive Instr where
  -- Reset (R13, R179, R180)
  /-- POWER_ON_RESET: power is applied; every block takes its power-on reset state. -/
  | powerOnReset
  /-- RESET_ASSERT: the RESET input is asserted. -/
  | resetAssert
  /-- RESET_RELEASE: RESET is released, with the straps and the Hall state present then (R180, R107). -/
  | resetRelease (area : BitVec 4) (hall : BitVec 3)
  -- Signal Front End (spec/01)
  /-- SAMPLE_SET: a sample instant (R1). -/
  | sampleSet (raw : RawSet)
  /-- CALIBRATION_COMPLETE: the sample instant at which the calibration count reaches 256 (R11). -/
  | calibrationComplete (raw : RawSet)
  /-- LASER_ON: LASER ON is offered (R8). -/
  | laserOn (c : Posted)
  /-- LASER_OFF: LASER OFF is offered (R8). -/
  | laserOff (c : Posted)
  /-- CALIBRATE_OFFSETS: CALIBRATE OFFSETS is offered (R10). -/
  | calibrateOffsets (c : Posted)
  /-- LASER_REQUEST: a laser request of the Position Controller is taken (R9). -/
  | laserRequest (on : Bool)
  /-- POSITION_LEAVES_IDLE: the front end takes the report that the position state left IDLE (R12). -/
  | positionLeavesIdle
  /-- RESET_SERVO_FRONT_END: the front end takes RESET SERVO (R13). -/
  | resetServoFrontEnd
  -- Loop Processor (spec/02)
  /-- LOOP_SAMPLE_SET: the Loop Processor takes a set (R14). -/
  | loopSampleSet (x : SampleSet)
  /-- HOLD_TIMEOUT: the set at which a hold times out (R20). -/
  | holdTimeout (x : SampleSet)
  /-- LIMIT_RUN: the set at which a limit run is reached (R29). -/
  | limitRun (x : SampleSet)
  /-- SLED_UPDATE: the set at which a sled update is computed (R34). -/
  | sledUpdate (x : SampleSet)
  /-- POSITION_REQUEST: a request of the Position Controller reaches a loop (R16). -/
  | positionRequest (loop : LoopId) (req : PosReq)
  /-- HOLD_SOURCE_REQUEST: a hold source is requested or withdrawn (R18). -/
  | holdSourceRequest (loops : LoopTarget) (src : HoldSource) (on : Bool)
  /-- GAIN_SET_REQUEST: a gain set is requested (R22). -/
  | gainSetRequest (loops : LoopTarget) (set : GainSet)
  /-- FEED_FORWARD_VALUE: a feed-forward value arrives (R30). -/
  | feedForwardValue (loop : LoopId) (v : Int)
  /-- SLED_REQUEST: a request of the Position Controller reaches the sled (R35). -/
  | sledRequest (req : SledReq)
  /-- SLED_HOME_ASSERTED: SLED_HOME becomes asserted (R34). -/
  | sledHomeAsserted
  /-- LOOP_GROUP_APPLY: group 0, 1 or 2 is handed over (R36). -/
  | loopGroupApply (g : LoopGroup)
  /-- TEMPERATURE_GROUP_APPLY: group 9 is applied (R37). -/
  | temperatureGroupApply
  /-- RESET_SERVO_LOOP: the Loop Processor takes RESET SERVO (R38). -/
  | resetServoLoop
  -- Position Controller (spec/03, spec/04)
  /-- POSITION_SET: the Position Controller takes a set (R40). -/
  | positionSet (x : SampleSet)
  /-- FOCUS_LOCK: the set at which focus locks (R45). -/
  | focusLock (x : SampleSet)
  /-- FOCUS_CLOSURE_ABANDONED: the set at which a focus closure is abandoned (R45). -/
  | focusClosureAbandoned (x : SampleSet)
  /-- FOCUS_LOST: the set at which focus is lost (R46). -/
  | focusLost (x : SampleSet)
  /-- TRACKING_CLOSE: the set at which tracking is sent CLOSE (R49). -/
  | trackingClose (x : SampleSet)
  /-- TRACKING_LOCK: the set at which a pull-in locks (R50). -/
  | trackingLock (x : SampleSet)
  /-- PULL_IN_TIMEOUT: the set at which a pull-in times out (R48). -/
  | pullInTimeout (x : SampleSet)
  /-- PARK_TIMEOUT: the set at which a park times out (R55). -/
  | parkTimeout (x : SampleSet)
  /-- KICK_END: the set at which a kick ends (R66). -/
  | kickEnd (x : SampleSet)
  /-- JUMP_BRAKE_END: the set at which a jump brake ends (R66). -/
  | jumpBrakeEnd (x : SampleSet)
  /-- JUMP_TIMER_EXPIRY: the set at which the jump timer expires (R66). -/
  | jumpTimerExpiry (x : SampleSet)
  /-- CATCH_LOCK: the set at which a catch locks (R67). -/
  | catchLock (x : SampleSet)
  /-- CATCH_TIMEOUT: the set at which a catch times out (R67). -/
  | catchTimeout (x : SampleSet)
  /-- SETTLE_COMPLETE: the set at which a landing is complete (R67, R71). -/
  | settleComplete (x : SampleSet)
  /-- SLED_BRAKE_END: the set at which the sled brake ends (R69). -/
  | sledBrakeEnd (x : SampleSet)
  /-- SEEK_TIMEOUT: the set at which the seek timer expires (R70). -/
  | seekTimeout (x : SampleSet)
  /-- REVOLUTION_MARKER_POSITION: a revolution marker is taken (R61). -/
  | revolutionMarkerPosition
  /-- LOOP_STATE_REPORT: a report of the Loop Processor is taken (R40, R47, R62). -/
  | loopStateReport (rep : LoopReport)
  /-- TRACKING_OFF_NOTICE: the tracking-OFF notice of R16 is taken (R47). -/
  | trackingOffNotice
  /-- NEIGHBOUR_REPORT: another neighbour's report is taken (R40). -/
  | neighbourReport (rep : NeighbourReport)
  /-- RECOVERY_ABORT: the abort request (R57). -/
  | recoveryAbort
  /-- RECOVERY_SEARCH: the search request with its number (R57, R139). -/
  | recoverySearch (n : BitVec 8)
  /-- RECOVERY_PULL_IN: the pull-in request with its number (R57, R139). -/
  | recoveryPullIn (n : BitVec 8)
  /-- RECOVERY_RELEASE: the release request (R57). -/
  | recoveryRelease
  /-- RECOVERY_SEEK: the seek request with its number (R74, R139). -/
  | recoverySeek (n : BitVec 8) (target : Nat)
  /-- REFERENCE_WAIT_REPORT: the Recovery Controller waits for a reference, or no longer (R64, R144). -/
  | referenceWaitReport (waiting : Bool)
  /-- LOADING_PARK_REQUEST: the park request of the Loading Controller (R55). -/
  | loadingParkRequest
  /-- UNLOAD_NOTICE_POSITION: the unload notice (R62). -/
  | unloadNoticePosition
  /-- FOCUS_ON: FOCUS ON is offered (R51). -/
  | focusOn (c : Posted)
  /-- FOCUS_OFF: FOCUS OFF is offered (R52). -/
  | focusOff (c : Posted)
  /-- TRACK_ON: TRACK ON is offered (R53). -/
  | trackOn (c : Posted)
  /-- TRACK_OFF: TRACK OFF is offered (R54). -/
  | trackOff (c : Posted)
  /-- PARK: PARK is offered (R55). -/
  | park (c : Posted)
  /-- STOP: STOP is offered (R56, R147). -/
  | stop (c : Posted)
  /-- JUMP: JUMP is offered (R65). -/
  | jump (c : Posted)
  /-- SEEK: SEEK is offered (R68). -/
  | seek (c : Posted)
  /-- SET_TRACK_REFERENCE: SET TRACK REFERENCE is offered (R64). -/
  | setTrackReference (c : Posted)
  /-- RESET_SERVO_POSITION: the Position Controller takes RESET SERVO (R59, R76). -/
  | resetServoPosition
  /-- POSITION_GROUP_APPLY: the position members of group 6 are applied (R58, R75). -/
  | positionGroupApply
  -- Defect Monitor (spec/05)
  /-- DEFECT_SET: the Defect Monitor takes a set (R77). -/
  | defectSet (x : SampleSet)
  /-- DEFECT_OPEN: the set at which a defect opens (R80). -/
  | defectOpen (x : SampleSet)
  /-- DEFECT_CLOSE: the set at which a defect closes (R81). -/
  | defectClose (x : SampleSet)
  /-- FREEZE_END: the set at which the freeze ends (R79). -/
  | freezeEnd (x : SampleSet)
  /-- FOCUS_IN_REPORT: a focus-in report is taken (R78). -/
  | focusInReport
  /-- FOCUS_OUT_REPORT: a focus-out report is taken (R78, R82). -/
  | focusOutReport
  /-- DEFECT_NEIGHBOUR_REPORT: a neighbour's report is taken (R77, R84). -/
  | defectNeighbourReport (rep : DefectReport)
  /-- REVOLUTION_MARKER_DEFECT: a revolution marker is taken (R84). -/
  | revolutionMarkerDefect (rev : Word)
  /-- REBASE_DEFECT_MAP: a rebase notice is taken (R93). -/
  | rebaseDefectMap (delta : Int)
  /-- HALL_FAULT_NOTICE: the Hall fault notice is taken (R92). -/
  | hallFaultNotice
  /-- UNLOAD_NOTICE_DEFECT: the unload notice is taken (R92). -/
  | unloadNoticeDefect
  /-- CLEAR_MAP: CLEAR MAP is offered (R91). -/
  | clearMap (c : Posted)
  /-- RESET_SERVO_DEFECT: the Defect Monitor takes RESET SERVO (R96). -/
  | resetServoDefect
  /-- DEFECT_GROUP_APPLY: group 4 is applied (R95). -/
  | defectGroupApply
  -- Shock Monitor (spec/06)
  /-- SHOCK_SET: the Shock Monitor takes a set (R97). -/
  | shockSet (x : SampleSet)
  /-- SHOCK_START: the set at which a shock begins (R98). -/
  | shockStart (x : SampleSet)
  /-- SHOCK_END: the set at which a shock ends (R99). -/
  | shockEnd (x : SampleSet)
  /-- SHOCK_GROUP_APPLY: group 5 is applied (R105). -/
  | shockGroupApply
  /-- RESET_SERVO_SHOCK: the Shock Monitor takes RESET SERVO (R106). -/
  | resetServoShock
  -- Spindle Controller (spec/07)
  /-- HALL_STATE_TAKEN: a new Hall state is taken, its edge time in µs (R107). -/
  | hallStateTaken (hall : BitVec 3) (t : Nat)
  /-- SPEED_UPDATE: the edge at which a speed update falls due (R112). -/
  | speedUpdate (hall : BitVec 3) (t : Nat)
  /-- REGULATION_ENTRY: the edge at which REGULATING is entered (R115). -/
  | regulationEntry (hall : BitVec 3) (t : Nat)
  /-- REGULATION_EXIT: the edge at which REGULATING is left (R115). -/
  | regulationExit (hall : BitVec 3) (t : Nat)
  /-- SPINDLE_SET: the Spindle Controller takes a set (R119). -/
  | spindleSet (x : SampleSet)
  /-- STALL_TIMER_EXPIRY: the set at which the stall timer expires (R117). -/
  | stallTimerExpiry (x : SampleSet)
  /-- STOP_TIMER_EXPIRY: the set at which the stop timer expires (R121). -/
  | stopTimerExpiry (x : SampleSet)
  /-- BRAKE_TIMER_EXPIRY: the set at which the brake timer expires (R122). -/
  | brakeTimerExpiry (x : SampleSet)
  /-- SPIN_COMMAND_TIMEOUT: the set at which a SPIN command times out (R126). -/
  | spinCommandTimeout (x : SampleSet)
  /-- SUPPLY_STATE_REPORT: a supply report is taken (R123). -/
  | supplyStateReport (st : SupplyState)
  /-- LOADING_STATE_REPORT: a loading report is taken (R124). -/
  | loadingStateReport (st : LoadingState)
  /-- LOADING_STOP_REQUEST: the loading stop request (R124). -/
  | loadingStopRequest
  /-- UNLOAD_NOTICE_SPINDLE: the unload notice is taken (R108). -/
  | unloadNoticeSpindle
  /-- SPINDLE_ENABLE_REPORT: the report of the spindle output enable is taken (R173). -/
  | spindleEnableReport (on : Bool)
  /-- RESPIN_REQUEST: the respin request with its number (R128, R139). -/
  | respinRequest (n : BitVec 8)
  /-- SEEK_TARGET_SEND: the seek target is sent, replaced or withdrawn (R113). -/
  | seekTargetSend (target : Option Nat)
  /-- TRACK_COUNTER_REPORT: the track counter is reported (R113). -/
  | trackCounterReport (value : Nat) (valid : Bool)
  /-- SPIN_CAV: SPIN CAV is offered (R126). -/
  | spinCav (c : Posted)
  /-- SPIN_CLV: SPIN CLV is offered (R126). -/
  | spinClv (c : Posted)
  /-- SPIN_STOP: SPIN STOP is offered (R127). -/
  | spinStop (c : Posted)
  /-- SPINDLE_GROUP_APPLY: group 3 is handed over (R129). -/
  | spindleGroupApply
  /-- RESET_SERVO_SPINDLE: the Spindle Controller takes RESET SERVO (R130). -/
  | resetServoSpindle
  -- Recovery Controller (spec/08)
  /-- RECOVERY_SET: the Recovery Controller takes a set (R132). -/
  | recoverySet
  /-- RESPIN_TIMEOUT: the set at which RESPIN times out (R141). -/
  | respinTimeout
  /-- QUIET_WAIT_TIMEOUT: the set at which the wait for quiet times out (R142). -/
  | quietWaitTimeout
  /-- REF_TIMEOUT: the set at which the wait for a reference times out (R144). -/
  | refTimeout
  /-- CONFIRM_TIMER_EXPIRY: the set at which CONFIRM succeeds (R146). -/
  | confirmTimerExpiry
  /-- CONDITION: a condition is taken (R131). -/
  | condition (k : Condition)
  /-- STEP_REPORT: a DONE or FAILED report with its number is taken (R139). -/
  | stepReport (n : BitVec 8) (o : StepOutcome)
  /-- REVOLUTION_MARKER_RECOVERY: a revolution marker is taken (R148). -/
  | revolutionMarkerRecovery (rev : Word)
  /-- REFERENCE_TAKEN_NOTICE: the reference-taken notice is taken (R144). -/
  | referenceTakenNotice
  /-- POSITION_COMMAND_TAKEN_NOTICE: the position-command-taken notice is taken (R138). -/
  | positionCommandTakenNotice
  /-- SHOCK_REPORT: a shock or quiet report is taken (R103). -/
  | shockReport (shock : Bool)
  /-- HOLD_SOURCE_REPORT: a hold-source or angle valid report is taken (R148). -/
  | holdSourceReport (rep : HoldReport)
  /-- RECOVERY_VIEW_REPORT: another neighbour's report is taken (R132). -/
  | recoveryViewReport (rep : RecoveryReport)
  /-- REBASE_LAST_GOOD_PLACE: a rebase notice is taken (R149). -/
  | rebaseLastGoodPlace (delta : Int)
  /-- UNLOAD_NOTICE_RECOVERY: the unload notice is taken (R149). -/
  | unloadNoticeRecovery
  /-- ABANDONMENT_REQUEST: the abandonment request (R147). -/
  | abandonmentRequest
  /-- RESET_SERVO_RECOVERY: the Recovery Controller takes RESET SERVO (R152). -/
  | resetServoRecovery
  /-- RECOVERY_GROUP_APPLY: the recovery members of group 6 are applied (R151). -/
  | recoveryGroupApply
  -- Loading Controller (spec/09)
  /-- LOADING_SET: the Loading Controller takes a set (R154). -/
  | loadingSet
  /-- SWITCH_CHANGE: the set at which a debounced switch changes (R153). -/
  | switchChange
  /-- START_EVALUATION: the set at which the switches are evaluated (R156). -/
  | startEvaluation
  /-- UNLOAD: the set at which UNLOAD_WAIT enters EJECTING (R160, R161). -/
  | unload
  /-- MOTION_TIMER_EXPIRY: the set at which the motion timer expires (R155). -/
  | motionTimerExpiry
  /-- WITHDRAWAL_TIMEOUT: the set at which the disc counts as withdrawn (R157). -/
  | withdrawalTimeout
  /-- PRESENT_TIMEOUT: the set at which the disc is taken in again (R162). -/
  | presentTimeout
  /-- LOADING_VIEW_REPORT: a neighbour's report is taken (R163). -/
  | loadingViewReport (rep : LoadingReport)
  /-- LOAD: LOAD is offered (R165). -/
  | load (c : Posted)
  /-- EJECT: EJECT is offered (R166). -/
  | eject (c : Posted)
  /-- RESET_SERVO_LOADING: the Loading Controller takes RESET SERVO (R168). -/
  | resetServoLoading
  /-- LOADING_GROUP_APPLY: the loading members of group 8 are applied (R167). -/
  | loadingGroupApply
  -- Drive Output Unit and Supply Monitor (spec/10)
  /-- CARRIER_UNDERFLOW: a channel's carrier underflow (R169). -/
  | carrierUnderflow (ch : Channel)
  /-- DUTY_DELIVERY: a delivery of a channel's owner (R169). -/
  | dutyDelivery (d : Delivery)
  /-- SPINDLE_ENABLE_REQUEST: a request of the Spindle Controller for its enable (R173). -/
  | spindleEnableRequest (on : Bool)
  /-- SUPPLY_SET: the Supply Monitor takes a set (R174). -/
  | supplySet (x : SampleSet)
  /-- RIDE_TIMER_EXPIRY: the set at which the ride timer expires (R177). -/
  | rideTimerExpiry (x : SampleSet)
  /-- RESTORE_TIMER_EXPIRY: the set at which the restore timer expires (R177). -/
  | restoreTimerExpiry (x : SampleSet)
  /-- SUPPLY_GROUP_APPLY: group 7 is applied (R178). -/
  | supplyGroupApply
  /-- RESET_SERVO_OUTPUTS: the block takes RESET SERVO (R179). -/
  | resetServoOutputs
  -- Bus Window Unit and Command Queue (spec/11)
  /-- COMMAND_POST: both lanes of word 7 of slots 0 to 14 are written (R181). -/
  | commandPost (slot : Fin 15) (w7 : Word)
  /-- URGENT_POST: both lanes of word 7 of slot 15 are written (R182). -/
  | urgentPost (w7 : Word)
  /-- WINDOW_WRITE: a write cycle on the bus (R180, R181). -/
  | windowWrite (addr : Nat) (data : Word) (lanes : Lanes)
  /-- DEFERRED_HEAD_OFFER: the Command Queue takes a set (R183). -/
  | deferredHeadOffer
  /-- COMPLETION: a completion reaches the Command Queue (R184). -/
  | completion (r : CompletionRec)
  /-- NOP: NOP is offered (R183). -/
  | nop (c : Posted)
  /-- UNKNOWN_COMMAND: a command of an unlisted code is offered (R183). -/
  | unknownCommand (c : Posted)
  /-- APPLY_PARAMETERS: APPLY PARAMETERS is offered (R185). -/
  | applyParameters (c : Posted)
  /-- GROUP_APPLIED_REPORT: an owner reports its part of a group applied, with its count of clamped fields (R185). -/
  | groupAppliedReport (group : GroupPart) (clamped : Nat)
  /-- NOTICE_GROUP_APPLY: N.ENABLE of group 8 is applied (R185, R189). -/
  | noticeGroupApply
  /-- RESET_SERVO: RESET SERVO is offered (R186). -/
  | resetServo (c : Posted)
  /-- SNAPSHOT_READ: a read cycle on the bus (R180, R187, R188, R194). -/
  | snapshotRead (addr : Nat) (lanes : Lanes)
  /-- NOTICE_WORD_READ: the notice word is read (R189). -/
  | noticeWordRead (lanes : Lanes)
  /-- NOTICE_RAISE: a notice kind is raised (R189). -/
  | noticeRaise (k : NoticeKind)
  -- Trace Capture Unit (spec/12)
  /-- CAPTURE_SET: the Trace Capture Unit takes a set (R191). -/
  | captureSet (x : SampleSet)
  /-- CAPTURE_DONE: the set at which the capture is done (R191). -/
  | captureDone (x : SampleSet)
  /-- TRIGGER_EVENT: a trigger event of another block is taken (R192). -/
  | triggerEvent (src : TriggerSource)
  /-- CAPTURE_ARM: CAPTURE ARM is offered (R193). -/
  | captureArm (c : Posted)
  /-- CAPTURE_TRIGGER: CAPTURE TRIGGER is offered (R193). -/
  | captureTrigger (c : Posted)
  /-- CAPTURE_STOP: CAPTURE STOP is offered (R193). -/
  | captureStop (c : Posted)
  /-- CAPTURE_GROUP_APPLY: the capture members of group 8 are applied (R194). -/
  | captureGroupApply
  /-- RESET_SERVO_CAPTURE: the Trace Capture Unit takes RESET SERVO (R194). -/
  | resetServoCapture
deriving DecidableEq, Repr

end Sys2Proof
end

