-- ==== Sys2Proof/Machine/Arith.lean ====
section
/-! DEFINITION. The arithmetic conventions of spec/00 section 1.6: clamping, rounding, saturating counters, words. -/

namespace Sys2Proof.Machine

open Sys2Proof

/-- "Clamp to lo..hi" (spec/00 section 1.6). -/
def clamp (lo hi v : Int) : Int := if v < lo then lo else if hi < v then hi else v

/-- Clamp of an unsigned quantity. -/
def clampNat (lo hi v : Nat) : Nat := if v < lo then lo else if hi < v then hi else v

/-- "Clamp to ±L". -/
def clampAbs (l v : Int) : Int := clamp (-l) l v

/-- floor((v + 2^(s−1)) / 2^s); for a shift of 0 nothing is added (spec/00 section 1.6, R26, R34, R114). -/
def roundShift (v : Int) (s : Nat) : Int :=
  if s = 0 then v else (v + (2 ^ (s - 1) : Nat)) / (2 ^ s : Nat)

/-- A counter that stops at 65535 (spec/00 section 1.6). -/
def satIncr (n : Nat) : Nat := if n < 65535 then n + 1 else 65535

/-- The 16-bit word that shows a signed or unsigned quantity (R187: two's complement). -/
def wordOf (v : Int) : Word := BitVec.ofInt 16 v

/-- The word that shows a flag (R187). -/
def wordOfFlag (b : Bool) : Word := if b then 1 else 0

/-- High half of a 32-bit quantity (R187: high half first). -/
def highHalf (v : Int) : Word := (BitVec.ofInt 32 v >>> 16).setWidth 16

/-- Low half of a 32-bit quantity. -/
def lowHalf (v : Int) : Word := BitVec.ofInt 16 v

/-- The 32-bit unsigned value of two words, high half first (Table 11-2). -/
def word32 (hi lo : Word) : Nat := hi.toNat * 65536 + lo.toNat

/-- The sample sets in n milliseconds (R5: 50 sets per millisecond). -/
def msSets (n : Nat) : Nat := 50 * n

/-- The sign of d as +1 or −1 (R66, R69); 0 has sign +1, a case those rules never reach. -/
def signOf (d : Int) : Int := if d < 0 then -1 else 1

end Sys2Proof.Machine
end

