-- ==== Sys2Proof/Machine/Memory.lean ====
section
/-! DEFINITION. The addressed buffers of the servo area (spec/11 Table 11-1, spec/12): a list of (offset, byte) in one
canonical form, and what an offset not listed reads as. -/

namespace Sys2Proof.Machine

open Sys2Proof

/-! ## Reset contents (Table 11-7 with the defaults of the owning chapters) -/

/-- The default words of a loop's group 0 or 1 (spec/02 section 2.8, Table 11-7). -/
def loopDefaultWords : List Nat :=
  [8192, 0, 0, 0, 0, 8192, 0, 0, 0, 0] ++ [8192, 0, 0, 0, 0, 8192, 0, 0, 0, 0]
    ++ [16384, 16384, 14, 14, 800, 0] ++ [16384, 16384, 16384, 16384, 16384, 16384] ++ [200, 100]

/-- The default words of group 3 (spec/07 section 7.8); 316750 = 4·65536 + 54606, 250000 = 3·65536 + 53392. -/
def spindleDefaultWords : List Nat :=
  [400, 50, 10, 12, 1000, 20, 4, 54606, 23000, 1600, 0, 25000, 3, 53392, 3000, 1, 10]

/-- The default words of group 6 (spec/03 section 3.11, spec/04 section 4.9, spec/08 section 8.8). -/
def positionDefaultWords : List Nat :=
  [600, 2, 3, 800, 400, 10, 20, 200, 300, 25] ++ [500, 400, 8, 150, 1500, 100, 24000, 100, 1500]
    ++ [4, 0xFF, 100, 20, 300, 3000, 200]

/-- The default words of group k, in the order of Table 11-7. -/
def groupDefaultWords (k : Nat) : List Nat :=
  match k with
  | 0 => loopDefaultWords
  | 1 => loopDefaultWords
  | 2 => [8192, 14, 40, 600, 700, 500, 250]
  | 3 => spindleDefaultWords
  | 4 => [8, 200, 300, 60, 3, 1, 1, 16, 32]
  | 5 => [600, 300, 2500, 0, 0, 200, 0]
  | 6 => positionDefaultWords
  | 7 => [0, 0, 4096, 1200, 900, 700, 950, 50, 20, 1]
  | 8 => [700, 20, 3000, 2000, 3000, 10000, 0xFF, 64, 1, 0x0F]
  | 9 => [800, 1400, 2000, 2600, 3200, 16]
  | _ => []

/-- The staging offset of word n of group k: blocks of 64 words from 0x0100 (Table 11-7). -/
def stagingOffset (k n : Nat) : Nat := 0x0100 + 0x80 * k + 2 * n

/-- The reset contents of the word at a servo-area offset: the default parameter in the staging blocks (R185), else 0
(R190, R194). Words of the staging window that Table 11-7 does not list: 0, DESIGN CHOICE, log 27. -/
def resetWord (off : Nat) : Word :=
  if off < 0x0100 then 0
  else BitVec.ofNat 16 ((groupDefaultWords ((off - 0x0100) / 0x80)).getD (((off - 0x0100) % 0x80) / 2) 0)

/-! ## The buffer -/

/-- A buffer of bytes by servo-area offset. -/
abbrev Memory := List Host.Cell

/-- What an unlisted offset reads as: its lane of the reset word. Low lane at the even offset (log 11). -/
def Memory.unlisted (a : Nat) : Byte :=
  if a % 2 = 0 then (resetWord a).lo else (resetWord a).hi

/-- One byte of a buffer. -/
def Memory.read : Memory → Nat → Byte
  | [], a => Memory.unlisted a
  | (k, v) :: m, a => if a = k then v else Memory.read m a

/-- Store one byte, keeping the canonical form: rising offsets, no entry equal to what the offset reads as unlisted. -/
def Memory.write : Memory → Nat → Byte → Memory
  | [], a, b => if b = Memory.unlisted a then [] else [(a, b)]
  | (k, v) :: m, a, b =>
    if a < k then (if b = Memory.unlisted a then (k, v) :: m else (a, b) :: (k, v) :: m)
    else if a = k then (if b = Memory.unlisted a then m else (a, b) :: m)
    else (k, v) :: Memory.write m a b

/-- The canonical form. -/
def Memory.wf : Memory → Bool
  | [] => true
  | (k, v) :: m => decide (v ≠ Memory.unlisted k) && m.all (fun c => decide (k < c.1)) && Memory.wf m

/-- The word at an even offset. -/
def Memory.word (m : Memory) (off : Nat) : Word :=
  Word.ofBytes (m.read (off + 1)) (m.read off)

/-- Replace the strobed lanes of the word at an even offset; an unstrobed lane stays (R181). -/
def Memory.writeLanes (m : Memory) (off : Nat) (w : Word) (lanes : Lanes) : Memory :=
  let m1 := if lanes.lo then m.write off w.lo else m
  if lanes.hi then m1.write (off + 1) w.hi else m1

/-- Replace both lanes of the word at an even offset. -/
def Memory.writeWord (m : Memory) (off : Nat) (w : Word) : Memory :=
  m.writeLanes off w { lo := true, hi := true }

end Sys2Proof.Machine
end

