-- ==== Sys2Proof/Machine/Params.lean ====
section
/-! DEFINITION. The active parameters of the ten groups (Table 11-7), their defaults, and how an owner copies and clamps its
group from the staging image when it applies it (R36, R37, R58, R75, R95, R105, R129, R151, R167, R178, R185, R194). -/

namespace Sys2Proof.Machine

open Sys2Proof

/-! ## The parameters -/

/-- Coefficients of one biquad section, Q2.13 (R23). -/
structure Biquad where
  b0 : Int
  b1 : Int
  b2 : Int
  a1 : Int
  a2 : Int
deriving DecidableEq, Repr

/-- The ten coefficients of one gain set. -/
structure CoefSet where
  s1 : Biquad
  s2 : Biquad
deriving DecidableEq, Repr

/-- Group 0 or 1 (spec/02 section 2.8). -/
structure LoopParams where
  coefN : CoefSet
  coefS : CoefSet
  gainN : Nat
  gainS : Nat
  shiftN : Nat
  shiftS : Nat
  limit : Nat
  bias : Int
  trim : List Nat
  limitRun : Nat
  holdMax : Nat
deriving DecidableEq, Repr

/-- Group 2 (spec/02 section 2.8). -/
structure SledParams where
  gain : Nat
  shift : Nat
  deadband : Nat
  limit : Nat
  seekDuty : Nat
  brakeDuty : Nat
  brakeTime : Nat
deriving DecidableEq, Repr

/-- Group 3 (spec/07 section 7.8). -/
structure SpindleParams where
  kp : Nat
  ki : Nat
  shiftP : Nat
  shiftI : Nat
  limit : Nat
  window : Nat
  clvC : Nat
  r0 : Nat
  pitch : Nat
  pMin : Nat
  pMax : Nat
  ocLimit : Nat
  brakeMode : Nat
  deadtime : Nat
deriving DecidableEq, Repr

/-- Group 4 (spec/05 section 5.7). -/
structure DefectParams where
  alpha : Nat
  beta : Nat
  depth : Nat
  hyst : Nat
  filter : Nat
  learn : Nat
  prehold : Nat
  guardUnits : Nat
  mergeGap : Nat
deriving DecidableEq, Repr

/-- Group 5 (spec/06 section 6.7). -/
structure ShockParams where
  start : Nat
  stop : Nat
  quiet : Nat
  ffF : Int
  ffT : Int
  ffLimit : Nat
  ffEnable : Nat
deriving DecidableEq, Repr

/-- The Position Controller's members of group 6 (spec/03 section 3.11, spec/04 section 4.9). -/
structure PositionParams where
  searchAmp : Nat
  searchStep : Nat
  searchSweeps : Nat
  focusPullin : Nat
  focusLoss : Nat
  lossRun : Nat
  lockRun : Nat
  feWindow : Nat
  teWindow : Nat
  pullinInterval : Nat
  kickDuty : Nat
  jumpBrakeDuty : Nat
  jumpBrakeTime : Nat
  hyst : Nat
  mirror : Nat
  brakeDist : Nat
  trackMax : Nat
  settle : Nat
  seekTimeout : Nat
  retrackTimeout : Nat
deriving DecidableEq, Repr

/-- The Recovery Controller's members of group 6 (spec/08 section 8.8). -/
structure RecoveryParams where
  budget : Nat
  mask : Nat
  refTimeout : Nat
  confirm : Nat
  quietWait : Nat
  respinTimeout : Nat
deriving DecidableEq, Repr

/-- Group 7 (spec/10 section 10.6). -/
structure SupplyParams where
  invert : Nat
  idle : Nat
  ksp : Nat
  nominal : Nat
  dip : Nat
  low : Nat
  restore : Nat
  ride : Nat
  restoreTime : Nat
  comp : Nat
deriving DecidableEq, Repr

/-- The Loading Controller's members of group 8 (spec/09 section 9.7). -/
structure LoadingParams where
  loadDuty : Nat
  debounce : Nat
  insertTimeout : Nat
  clampTimeout : Nat
  ejectTimeout : Nat
  presentTimeout : Nat
deriving DecidableEq, Repr

/-- The Trace Capture Unit's members of group 8 (R194). -/
structure CaptureParams where
  pre : Nat
  decimate : Nat
  triggers : Nat
deriving DecidableEq, Repr

/-- Group 9 (spec/02 section 2.8). -/
structure TemperatureParams where
  tb1 : Nat
  tb2 : Nat
  tb3 : Nat
  tb4 : Nat
  tb5 : Nat
  hyst : Nat
deriving DecidableEq, Repr

/-! ## Defaults -/

/-- b0 = 8192 in each section, others 0. -/
def defaultCoefs : CoefSet :=
  { s1 := { b0 := 8192, b1 := 0, b2 := 0, a1 := 0, a2 := 0 }, s2 := { b0 := 8192, b1 := 0, b2 := 0, a1 := 0, a2 := 0 } }

def defaultLoopParams : LoopParams :=
  { coefN := defaultCoefs, coefS := defaultCoefs, gainN := 16384, gainS := 16384, shiftN := 14, shiftS := 14,
    limit := 800, bias := 0, trim := [16384, 16384, 16384, 16384, 16384, 16384], limitRun := 200, holdMax := 100 }

def defaultSledParams : SledParams :=
  { gain := 8192, shift := 14, deadband := 40, limit := 600, seekDuty := 700, brakeDuty := 500, brakeTime := 250 }

def defaultSpindleParams : SpindleParams :=
  { kp := 400, ki := 50, shiftP := 10, shiftI := 12, limit := 1000, window := 20, clvC := 316750, r0 := 23000,
    pitch := 1600, pMin := 25000, pMax := 250000, ocLimit := 3000, brakeMode := 1, deadtime := 10 }

def defaultDefectParams : DefectParams :=
  { alpha := 8, beta := 200, depth := 300, hyst := 60, filter := 3, learn := 1, prehold := 1, guardUnits := 16,
    mergeGap := 32 }

def defaultShockParams : ShockParams :=
  { start := 600, stop := 300, quiet := 2500, ffF := 0, ffT := 0, ffLimit := 200, ffEnable := 0 }

def defaultPositionParams : PositionParams :=
  { searchAmp := 600, searchStep := 2, searchSweeps := 3, focusPullin := 800, focusLoss := 400, lossRun := 10,
    lockRun := 20, feWindow := 200, teWindow := 300, pullinInterval := 25, kickDuty := 500, jumpBrakeDuty := 400,
    jumpBrakeTime := 8, hyst := 150, mirror := 1500, brakeDist := 100, trackMax := 24000, settle := 100,
    seekTimeout := 1500, retrackTimeout := 200 }

def defaultRecoveryParams : RecoveryParams :=
  { budget := 4, mask := 0xFF, refTimeout := 100, confirm := 20, quietWait := 300, respinTimeout := 3000 }

def defaultSupplyParams : SupplyParams :=
  { invert := 0, idle := 0, ksp := 4096, nominal := 1200, dip := 900, low := 700, restore := 950, ride := 50,
    restoreTime := 20, comp := 1 }

def defaultLoadingParams : LoadingParams :=
  { loadDuty := 700, debounce := 20, insertTimeout := 3000, clampTimeout := 2000, ejectTimeout := 3000,
    presentTimeout := 10000 }

def defaultCaptureParams : CaptureParams := { pre := 64, decimate := 1, triggers := 0x0F }

def defaultTemperatureParams : TemperatureParams :=
  { tb1 := 800, tb2 := 1400, tb3 := 2000, tb4 := 2600, tb5 := 3200, hyst := 16 }

/-! ## Reading one field of a staged group

A field read gives its clamped value and whether it was clamped (1 or 0): "each clamped word counts as one clamped
field". -/

/-- A clamped unsigned value with its mark. -/
def clampField (lo hi raw : Nat) : Nat × Nat :=
  (clampNat lo hi raw, if clampNat lo hi raw = raw then 0 else 1)

/-- Word n of group k, read as unsigned and clamped. -/
def stagedU (img : Memory) (k n lo hi : Nat) : Nat × Nat :=
  clampField lo hi (img.word (stagingOffset k n)).toNat

/-- Words n and n+1 of group k, one 32-bit value (high half first), clamped. -/
def stagedU32 (img : Memory) (k n lo hi : Nat) : Nat × Nat :=
  clampField lo hi (word32 (img.word (stagingOffset k n)) (img.word (stagingOffset k (n + 1))))

/-- Word n of group k, read as signed. -/
def stagedS (img : Memory) (k n : Nat) : Int := (img.word (stagingOffset k n)).toInt

/-- Word n of group k, read as signed and clamped to ±l. -/
def stagedSAbs (img : Memory) (k n l : Nat) : Int × Nat :=
  (clampAbs l (stagedS img k n), if clampAbs l (stagedS img k n) = stagedS img k n then 0 else 1)

/-! ## Copy and clamp of each group -/

/-- Section coefficients from word n of group k: full signed range, never clamped (R36). -/
def stagedBiquad (img : Memory) (k n : Nat) : Biquad :=
  { b0 := stagedS img k n, b1 := stagedS img k (n + 1), b2 := stagedS img k (n + 2), a1 := stagedS img k (n + 3),
    a2 := stagedS img k (n + 4) }

/-- Group 0 (k = 0) or 1 (k = 1) as R36 copies it, with its count of clamped fields. -/
def stagedLoopParams (img : Memory) (k : Nat) : LoopParams × Nat :=
  let gN := stagedU img k 20 0 65535
  let gS := stagedU img k 21 0 65535
  let sN := stagedU img k 22 0 31
  let sS := stagedU img k 23 0 31
  let lim := stagedU img k 24 0 1023
  let bias := stagedSAbs img k 25 1023
  let t := [26, 27, 28, 29, 30, 31].map (fun n => stagedU img k n 0 32767)
  let run := stagedU img k 32 1 65535
  let hmax := stagedU img k 33 1 65535
  ({ coefN := { s1 := stagedBiquad img k 0, s2 := stagedBiquad img k 5 },
     coefS := { s1 := stagedBiquad img k 10, s2 := stagedBiquad img k 15 },
     gainN := gN.1, gainS := gS.1, shiftN := sN.1, shiftS := sS.1, limit := lim.1, bias := bias.1,
     trim := t.map Prod.fst, limitRun := run.1, holdMax := hmax.1 },
   gN.2 + gS.2 + sN.2 + sS.2 + lim.2 + bias.2 + (t.map Prod.snd).sum + run.2 + hmax.2)

/-- Group 2 (R36). -/
def stagedSledParams (img : Memory) : SledParams × Nat :=
  let g := stagedU img 2 0 0 65535
  let s := stagedU img 2 1 0 31
  let d := stagedU img 2 2 0 1023
  let l := stagedU img 2 3 0 1023
  let sd := stagedU img 2 4 0 1023
  let bd := stagedU img 2 5 0 1023
  let bt := stagedU img 2 6 0 65535
  ({ gain := g.1, shift := s.1, deadband := d.1, limit := l.1, seekDuty := sd.1, brakeDuty := bd.1, brakeTime := bt.1 },
   g.2 + s.2 + d.2 + l.2 + sd.2 + bd.2 + bt.2)

/-- Group 3 (R129): SP.P_MAX is clamped to at least the clamped SP.P_MIN. -/
def stagedSpindleParams (img : Memory) : SpindleParams × Nat :=
  let kp := stagedU img 3 0 0 65535
  let ki := stagedU img 3 1 0 65535
  let shP := stagedU img 3 2 0 31
  let shI := stagedU img 3 3 0 31
  let lim := stagedU img 3 4 0 1023
  let win := stagedU img 3 5 0 1023
  let c := stagedU32 img 3 6 0 4294967295
  let r0 := stagedU img 3 8 0 65535
  let pitch := stagedU img 3 9 0 65535
  let pMin := stagedU32 img 3 10 1 1000000
  let pMax := stagedU32 img 3 12 pMin.1 1000000
  let oc := stagedU img 3 14 0 4095
  let bm := stagedU img 3 15 0 1
  let dt := stagedU img 3 16 0 255
  ({ kp := kp.1, ki := ki.1, shiftP := shP.1, shiftI := shI.1, limit := lim.1, window := win.1, clvC := c.1, r0 := r0.1,
     pitch := pitch.1, pMin := pMin.1, pMax := pMax.1, ocLimit := oc.1, brakeMode := bm.1, deadtime := dt.1 },
   kp.2 + ki.2 + shP.2 + shI.2 + lim.2 + win.2 + c.2 + r0.2 + pitch.2 + pMin.2 + pMax.2 + oc.2 + bm.2 + dt.2)

/-- Group 4 (R95). -/
def stagedDefectParams (img : Memory) : DefectParams × Nat :=
  let a := stagedU img 4 0 1 64
  let b := stagedU img 4 1 0 65535
  let d := stagedU img 4 2 1 4095
  let h := stagedU img 4 3 0 4095
  let f := stagedU img 4 4 1 255
  let l := stagedU img 4 5 0 1
  let p := stagedU img 4 6 0 1
  let g := stagedU img 4 7 0 1024
  let m := stagedU img 4 8 0 1024
  ({ alpha := a.1, beta := b.1, depth := d.1, hyst := h.1, filter := f.1, learn := l.1, prehold := p.1,
     guardUnits := g.1, mergeGap := m.1 },
   a.2 + b.2 + d.2 + h.2 + f.2 + l.2 + p.2 + g.2 + m.2)

/-- Group 5 (R105): K.FF_F and K.FF_T are signed and fill their range. -/
def stagedShockParams (img : Memory) : ShockParams × Nat :=
  let st := stagedU img 5 0 1 2048
  let e := stagedU img 5 1 1 2048
  let q := stagedU img 5 2 1 65535
  let l := stagedU img 5 5 0 1023
  let en := stagedU img 5 6 0 1
  ({ start := st.1, stop := e.1, quiet := q.1, ffF := stagedS img 5 3, ffT := stagedS img 5 4, ffLimit := l.1,
     ffEnable := en.1 },
   st.2 + e.2 + q.2 + l.2 + en.2)

/-- The Position Controller's members of group 6 (R58, R75). -/
def stagedPositionParams (img : Memory) : PositionParams × Nat :=
  let amp := stagedU img 6 0 1 1023
  let step := stagedU img 6 1 1 1023
  let sweeps := stagedU img 6 2 1 255
  let pull := stagedU img 6 3 0 4095
  let loss := stagedU img 6 4 0 4095
  let lossRun := stagedU img 6 5 1 65535
  let lockRun := stagedU img 6 6 1 65535
  let feW := stagedU img 6 7 1 2048
  let teW := stagedU img 6 8 1 2048
  let intv := stagedU img 6 9 1 65535
  let kick := stagedU img 6 10 0 1023
  let jbd := stagedU img 6 11 0 1023
  let jbt := stagedU img 6 12 0 65535
  let hyst := stagedU img 6 13 0 2047
  let mir := stagedU img 6 14 0 4095
  let bdist := stagedU img 6 15 0 65535
  let tmax := stagedU img 6 16 0 65535
  let settle := stagedU img 6 17 0 65535
  let seekT := stagedU img 6 18 1 65535
  let retrack := stagedU img 6 25 1 65535
  ({ searchAmp := amp.1, searchStep := step.1, searchSweeps := sweeps.1, focusPullin := pull.1, focusLoss := loss.1,
     lossRun := lossRun.1, lockRun := lockRun.1, feWindow := feW.1, teWindow := teW.1, pullinInterval := intv.1,
     kickDuty := kick.1, jumpBrakeDuty := jbd.1, jumpBrakeTime := jbt.1, hyst := hyst.1, mirror := mir.1,
     brakeDist := bdist.1, trackMax := tmax.1, settle := settle.1, seekTimeout := seekT.1, retrackTimeout := retrack.1 },
   amp.2 + step.2 + sweeps.2 + pull.2 + loss.2 + lossRun.2 + lockRun.2 + feW.2 + teW.2 + intv.2 + kick.2 + jbd.2 + jbt.2
     + hyst.2 + mir.2 + bdist.2 + tmax.2 + settle.2 + seekT.2 + retrack.2)

/-- The Recovery Controller's members of group 6 (R151). -/
def stagedRecoveryParams (img : Memory) : RecoveryParams × Nat :=
  let b := stagedU img 6 19 0 15
  let m := stagedU img 6 20 0 255
  let rt := stagedU img 6 21 1 65535
  let c := stagedU img 6 22 1 65535
  let q := stagedU img 6 23 0 65535
  let rs := stagedU img 6 24 1 65535
  ({ budget := b.1, mask := m.1, refTimeout := rt.1, confirm := c.1, quietWait := q.1, respinTimeout := rs.1 },
   b.2 + m.2 + rt.2 + c.2 + q.2 + rs.2)

/-- Group 7 (R178), in the order V.LOW, V.DIP, V.RESTORE. -/
def stagedSupplyParams (img : Memory) : SupplyParams × Nat :=
  let inv := stagedU img 7 0 0 31
  let idle := stagedU img 7 1 0 15
  let ksp := stagedU img 7 2 0 65535
  let nom := stagedU img 7 3 0 65535
  let low := stagedU img 7 5 1 65535
  let dip := stagedU img 7 4 low.1 65535
  let res := stagedU img 7 6 dip.1 65535
  let ride := stagedU img 7 7 0 65535
  let rt := stagedU img 7 8 0 65535
  let comp := stagedU img 7 9 0 1
  ({ invert := inv.1, idle := idle.1, ksp := ksp.1, nominal := nom.1, dip := dip.1, low := low.1, restore := res.1,
     ride := ride.1, restoreTime := rt.1, comp := comp.1 },
   inv.2 + idle.2 + ksp.2 + nom.2 + low.2 + dip.2 + res.2 + ride.2 + rt.2 + comp.2)

/-- The Loading Controller's members of group 8 (R167). -/
def stagedLoadingParams (img : Memory) : LoadingParams × Nat :=
  let d := stagedU img 8 0 0 1023
  let b := stagedU img 8 1 0 255
  let i := stagedU img 8 2 1 65535
  let c := stagedU img 8 3 1 65535
  let e := stagedU img 8 4 1 65535
  let p := stagedU img 8 5 0 65535
  ({ loadDuty := d.1, debounce := b.1, insertTimeout := i.1, clampTimeout := c.1, ejectTimeout := e.1,
     presentTimeout := p.1 },
   d.2 + b.2 + i.2 + c.2 + e.2 + p.2)

/-- N.ENABLE of group 8, clamped to 0..255 (R185). -/
def stagedNoticeEnable (img : Memory) : Nat × Nat := stagedU img 8 6 0 255

/-- The Trace Capture Unit's members of group 8 (R194). -/
def stagedCaptureParams (img : Memory) : CaptureParams × Nat :=
  let p := stagedU img 8 7 0 255
  let d := stagedU img 8 8 1 255
  let t := stagedU img 8 9 0 15
  ({ pre := p.1, decimate := d.1, triggers := t.1 }, p.2 + d.2 + t.2)

/-- Group 9 (R37): each TBk is clamped to at least TB(k−1) as copied, and to 0..4095. -/
def stagedTemperatureParams (img : Memory) : TemperatureParams × Nat :=
  let t1 := stagedU img 9 0 0 4095
  let t2 := stagedU img 9 1 t1.1 4095
  let t3 := stagedU img 9 2 t2.1 4095
  let t4 := stagedU img 9 3 t3.1 4095
  let t5 := stagedU img 9 4 t4.1 4095
  let h := stagedU img 9 5 0 4095
  ({ tb1 := t1.1, tb2 := t2.1, tb3 := t3.1, tb4 := t4.1, tb5 := t5.1, hyst := h.1 },
   t1.2 + t2.2 + t3.2 + t4.2 + t5.2 + h.2)

end Sys2Proof.Machine
end

