-- ==== Sys2Proof/Machine/Blocks.lean ====
section
/-! DEFINITION. The state of each block, field by field as the chapters' tables list it, and its value after power-on reset
(R13, R38, R59, R76, R96, R106, R130, R152, R168, R179, R190, R194). -/

namespace Sys2Proof.Machine

open Sys2Proof

/-! ## Signal Front End (spec/01) -/

/-- The record of a running calibration (R10, R11). -/
structure Calibration where
  tag : Byte
  count : Nat
  sumFe : Int
  sumTe : Int
  sumSh : Int
deriving DecidableEq, Repr

/-- State of the Signal Front End. The calibration state is RUNNING while `calibration` is present. `formed` tells whether
a set has been formed since reset, so that the first carries stamp 0 (R1). -/
structure FrontEnd where
  stamp : Word
  formed : Bool
  feOffset : Int
  teOffset : Int
  shOffset : Int
  sp : Int
  tm : Int
  laser : Bool
  calibration : Option Calibration
deriving DecidableEq, Repr

def FrontEnd.reset : FrontEnd :=
  { stamp := 0, formed := false, feOffset := 0, teOffset := 0, shOffset := 0, sp := 0, tm := 0, laser := false,
    calibration := none }

/-! ## Loop Processor (spec/02) -/

/-- The set of hold sources of a loop (R18). -/
structure HoldSet where
  defect : Bool
  predict : Bool
  supply : Bool
deriving DecidableEq, Repr

def HoldSet.empty : HoldSet := { defect := false, predict := false, supply := false }

/-- Delay states of one section (R23). -/
structure Delay where
  x1 : Int
  x2 : Int
  y1 : Int
  y2 : Int
deriving DecidableEq, Repr

def Delay.zero : Delay := { x1 := 0, x2 := 0, y1 := 0, y2 := 0 }

/-- One loop context (Table 2-1). `openDrive` is the drive of the OPEN loop (R16); `awaiting` counts how often
group 0 or 1 was handed over and waits (R36; log 23); `params` are the active values of that group. -/
structure Loop where
  state : LoopState
  gainUse : GainSet
  gainReq : GainSet
  holds : HoldSet
  d1 : Delay
  d2 : Delay
  last : Int
  held : Option Int
  holdCount : Nat
  limitCount : Nat
  eventCount : Nat
  lastEvent : Nat
  ff : Int
  lock : Bool
  request : Option PendingReq
  openDrive : Int
  awaiting : Nat
  params : LoopParams
deriving DecidableEq, Repr

def Loop.reset : Loop :=
  { state := .off, gainUse := .normal, gainReq := .normal, holds := HoldSet.empty, d1 := Delay.zero, d2 := Delay.zero,
    last := 0, held := none, holdCount := 0, limitCount := 0, eventCount := 0, lastEvent := 0, ff := 0, lock := false,
    request := none, openDrive := 0, awaiting := 0, params := defaultLoopParams }

/-- Sled mode (section 2.7). -/
inductive SledMode where
  | loop
  | driven (duty : Int)
deriving DecidableEq, Repr

/-- The sled state (section 2.7), its request not yet taken (R35) and group 2. -/
structure Sled where
  sum : Int
  phase : Nat
  mode : SledMode
  lastDuty : Int
  request : Option SledReq
  awaiting : Nat
  params : SledParams
deriving DecidableEq, Repr

def Sled.reset : Sled :=
  { sum := 0, phase := 0, mode := .loop, lastDuty := 0, request := none, awaiting := 0, params := defaultSledParams }

/-- State of the Loop Processor. `bandSet` tells that the first refresh since reset has come (R31). -/
structure LoopProc where
  focus : Loop
  track : Loop
  sled : Sled
  band : Nat
  bandSet : Bool
  temp : TemperatureParams
deriving DecidableEq, Repr

def LoopProc.reset : LoopProc :=
  { focus := Loop.reset, track := Loop.reset, sled := Sled.reset, band := 0, bandSet := false,
    temp := defaultTemperatureParams }

/-! ## Position Controller (spec/03, spec/04) -/

/-- Who asked for the work in flight (R39); `none` is the pull-in that goes on with no origin (R56, R73). -/
inductive Origin where
  | command (tag : Byte) (code : Byte)
  | recovery (n : BitVec 8)
  | loading
  | none
deriving DecidableEq, Repr

/-- Kinds of work (R187, work kind). -/
inductive WorkKind where
  | focusSearch | trackPullIn | park | jump | seek
deriving DecidableEq, Repr

/-- The work in flight (R39). -/
structure Work where
  kind : WorkKind
  origin : Origin
deriving DecidableEq, Repr

/-- The search record (R42). -/
structure SearchRec where
  drive : Int
  up : Bool
  sweeps : Nat
deriving DecidableEq, Repr

/-- The pull-in record, and the catch record of a landing (R48, R67). `elapsed` counts sets; `closed` tells that the CLOSE
has been sent. -/
structure PullIn where
  quiet : Nat
  lastCross : Word
  lockRun : Nat
  elapsed : Nat
  closed : Bool
deriving DecidableEq, Repr

/-- Motion phases (Table 4-1). -/
inductive Phase where
  | kick | brake | run | sledBrake | landing | settle
deriving DecidableEq, Repr

/-- The motion record (section 4.4). `landing` is the phase CATCH, with its catch record in `pull`. The jump timer counts
sets up to `jumpSets`; it is absent outside KICK and BRAKE. The seek target is present in a record of kind SEEK. -/
structure Motion where
  isSeek : Bool
  phase : Phase
  dir : Int
  jumpCount : Nat
  jumpTarget : Option Int
  seekTarget : Nat
  clamped : Bool
  corrections : Nat
  retargeted : Bool
  timedOut : Bool
  jumpTimer : Option Nat
  jumpSets : Nat
  seekTimer : Nat
  brakeCount : Nat
  pull : Option PullIn
  settleCount : Nat
deriving DecidableEq, Repr

/-- The Position Controller's views of its neighbours (R40, R64). -/
structure PosViews where
  focus : LoopState
  track : LoopState
  held : Bool
  loading : LoadingState
  spindle : SpindleState
  laser : Bool
  calibrating : Bool
  recovery : RecoveryState
  refWait : Bool
deriving DecidableEq, Repr

/-- State of the Position Controller. -/
structure Pos where
  state : PositionState
  work : Option Work
  search : Option SearchRec
  prevFe : Option Int
  lockRun : Nat
  lossRun : Nat
  pull : Option PullIn
  parkTimer : Option Nat
  lastStamp : Word
  views : PosViews
  counter : Nat
  valid : Bool
  armed : Bool
  mirror : Bool
  lastDir : Option Int
  motion : Option Motion
  params : PositionParams
deriving DecidableEq, Repr

def Pos.reset : Pos :=
  { state := .idle, work := none, search := none, prevFe := none, lockRun := 0, lossRun := 0, pull := none,
    parkTimer := none, lastStamp := 0,
    views := { focus := .off, track := .off, held := false, loading := .startEval, spindle := .coasting, laser := false,
               calibrating := false, recovery := .idle, refWait := false },
    counter := 0, valid := false, armed := false, mirror := false,
    lastDir := none, motion := none, params := defaultPositionParams }

/-! ## Defect Monitor (spec/05) -/

/-- Detector states. -/
inductive Detector where
  | inactive | clear | opened
deriving DecidableEq, Repr

/-- A Defect Map entry (Table 5-1). -/
structure Entry where
  track : Nat
  start : Nat
  len : Nat
  hits : Nat
  stamp : Word
deriving DecidableEq, Repr

/-- The open record (R84). -/
structure OpenRec where
  track : Int
  trackKnown : Bool
  start : Nat
  startKnown : Bool
  markers : Nat
  usable : Bool
deriving DecidableEq, Repr

/-- The predictive window: its entry, named by the track and start angle that no other entry shares, and the defect-seen
flag (R89). -/
structure Window where
  track : Nat
  start : Nat
  seen : Bool
deriving DecidableEq, Repr

/-- The Defect Monitor's views of its neighbours (R77). -/
structure DefViews where
  position : PositionState
  counter : Nat
  valid : Bool
  angleValid : Bool
  rev : Word
deriving DecidableEq, Repr

/-- State of the Defect Monitor. -/
structure Def where
  det : Detector
  baseline : Int
  pendingInit : Bool
  openRun : Nat
  closeRun : Nat
  freeze : Option Nat
  depth : Int
  openRec : Option OpenRec
  map : List Entry
  window : Option Window
  count : Nat
  views : DefViews
  params : DefectParams
deriving DecidableEq, Repr

def Def.reset : Def :=
  { det := .inactive, baseline := 0, pendingInit := false, openRun := 0, closeRun := 0, freeze := none, depth := 0,
    openRec := none, map := [], window := none, count := 0,
    views := { position := .idle, counter := 0, valid := false, angleValid := false, rev := 0 },
    params := defaultDefectParams }

/-! ## Shock Monitor (spec/06) -/

/-- State of the Shock Monitor; `shock` is the shock state SHOCK. -/
structure Shock where
  shock : Bool
  startRun : Nat
  quietCount : Nat
  count : Nat
  shc : Int
  ffFocus : Int
  ffTrack : Int
  params : ShockParams
deriving DecidableEq, Repr

def Shock.reset : Shock :=
  { shock := false, startRun := 0, quietCount := 0, count := 0, shc := 0, ffFocus := 0, ffTrack := 0,
    params := defaultShockParams }

/-! ## Spindle Controller (spec/07) -/

/-- Direction of a Hall edge (R107). -/
inductive EdgeDir where
  | forward | reverse
deriving DecidableEq, Repr

/-- The run target (R113). -/
inductive RunTarget where
  | cav (period : Nat)
  | clv
deriving DecidableEq, Repr

/-- The stop kind. -/
inductive StopKind where
  | coast | brake
deriving DecidableEq, Repr

/-- The spindle command in flight (R125, R126); `timer` counts sets, `isStop` tells SPIN STOP. -/
structure SpinWork where
  tag : Byte
  code : Byte
  isStop : Bool
  clamped : Bool
  timer : Nat
deriving DecidableEq, Repr

/-- The Spindle Controller's views of its neighbours (R130, R113). -/
structure SpinViews where
  loading : LoadingState
  supply : Option SupplyState
  enable : Bool
  counter : Nat
  valid : Bool
deriving DecidableEq, Repr

/-- State of the Spindle Controller. -/
structure Spin where
  state : SpindleState
  hall : BitVec 3
  lastDir : Option EdgeDir
  edges : Nat
  origin : Bool
  refTime : Option Nat
  interval : Option Nat
  history : List Nat
  phase : Nat
  edgeTime : Nat
  rev : Word
  target : Option RunTarget
  stopKind : Option StopKind
  brakeDrive : Bool
  clvTrack : Nat
  seekTarget : Option Nat
  pMeas : Nat
  pTarget : Nat
  integ : Int
  duty : Int
  err : Int
  inRun : Nat
  outRun : Nat
  stallTimer : Option Nat
  stopTimer : Option Nat
  brakeTimer : Option Nat
  work : Option SpinWork
  respin : Option (BitVec 8)
  pattern : Pattern
  magnitude : Int
  awaiting : Nat
  views : SpinViews
  params : SpindleParams
deriving DecidableEq, Repr

def Spin.reset : Spin :=
  { state := .coasting, hall := 0, lastDir := none, edges := 0, origin := false, refTime := none, interval := none,
    history := [], phase := 0, edgeTime := 0, rev := 0, target := none, stopKind := none, brakeDrive := false,
    clvTrack := 0, seekTarget := none, pMeas := 0, pTarget := 0, integ := 0, duty := 0, err := 0, inRun := 0, outRun := 0,
    stallTimer := none, stopTimer := some 0, brakeTimer := none, work := none, respin := none, pattern := .coast,
    magnitude := 0, awaiting := 0,
    views := { loading := .startEval, supply := none, enable := false, counter := 0, valid := false },
    params := defaultSpindleParams }

/-! ## Recovery Controller (spec/08) -/

/-- The steps of a plan (Table 8-2), in their order. -/
inductive Step where
  | waitQuiet | respin | refocus | retrack | return_ | confirm
deriving DecidableEq, Repr

/-- The step phases of REFOCUS and RETURN. -/
inductive StepPhase where
  | quietWait | search | refWait | seek
deriving DecidableEq, Repr

/-- How the latest plan ended. -/
inductive PlanOutcome where
  | done | failed | abandoned
deriving DecidableEq, Repr

/-- The Last Good Place (section 8.6). -/
structure LastGoodPlace where
  track : Nat
  valid : Bool
  stamp : Word
deriving DecidableEq, Repr

/-- The Recovery Controller's views (R132). -/
structure RecViews where
  position : PositionState
  counter : Nat
  valid : Bool
  held : Bool
  loading : LoadingState
  supply : Option SupplyState
  shock : Bool
  angleValid : Bool
deriving DecidableEq, Repr

/-- State of the Recovery Controller. `conditions` is the pending set in the bit order of R.MASK; `reqStep` is the step
that sent the latest numbered request (R139); `waiting` tells that the waiting report stands, `refTaken` that the
reference-taken notice came in REF_WAIT (R144). -/
structure Rec where
  state : RecoveryState
  step : Option Step
  phase : Option StepPhase
  timer : Option Nat
  attempts : Nat
  nested : Bool
  conditions : BitVec 8
  reqNum : BitVec 8
  reqStep : Option Step
  outcome : Option StepOutcome
  lgp : LastGoodPlace
  holdSeen : Bool
  waiting : Bool
  refTaken : Bool
  lastCondition : Option Condition
  lastOutcome : Option PlanOutcome
  views : RecViews
  params : RecoveryParams
deriving DecidableEq, Repr

def Rec.reset : Rec :=
  { state := .idle, step := none, phase := none, timer := none, attempts := 0, nested := false, conditions := 0,
    reqNum := 0, reqStep := none, outcome := none, lgp := { track := 0, valid := false, stamp := 0 }, holdSeen := true,
    waiting := false, refTaken := false, lastCondition := none, lastOutcome := none,
    views := { position := .idle, counter := 0, valid := false, held := false, loading := .startEval, supply := none,
               shock := false, angleValid := false },
    params := defaultRecoveryParams }

/-! ## Loading Controller (spec/09) -/

/-- The four debounced switches, true is asserted. -/
structure Switches where
  entry : Bool
  centre : Bool
  clamp : Bool
  home : Bool
deriving DecidableEq, Repr

/-- The four debounce counts. -/
structure Debounce where
  entry : Nat
  centre : Nat
  clamp : Nat
  home : Nat
deriving DecidableEq, Repr

/-- The loading command in flight. -/
structure LoadWork where
  isLoad : Bool
  tag : Byte
deriving DecidableEq, Repr

/-- State of the Loading Controller. `seeded` tells that the debounced switches have been taken from the raw levels at the
first set (R168). Timers count sets. -/
structure Load where
  state : LoadingState
  switches : Switches
  counts : Debounce
  seeded : Bool
  motionTimer : Option Nat
  withdrawTimer : Option Nat
  presentTimer : Option Nat
  work : Option LoadWork
  spindle : SpindleState
  enable : Bool
  params : LoadingParams
deriving DecidableEq, Repr

/-- At reset the switches count as released until the first set takes their levels (R168, log 54). -/
def Load.reset : Load :=
  { state := .startEval, switches := { entry := false, centre := false, clamp := false, home := false },
    counts := { entry := 0, centre := 0, clamp := 0, home := 0 }, seeded := false, motionTimer := none,
    withdrawTimer := none, presentTimer := none, work := none, spindle := .coasting, enable := false,
    params := defaultLoadingParams }

/-! ## Drive Output Unit and Supply Monitor (spec/10) -/

/-- One H-bridge channel: the buffered duty, the applied output (`none` is idle, R169), and O.IDLE and O.INVERT as latched
at its latest underflow (R178). -/
structure Bridge where
  buffered : Int
  applied : Option Int
  short : Bool
  invert : Bool
deriving DecidableEq, Repr

def Bridge.reset : Bridge := { buffered := 0, applied := none, short := false, invert := false }

/-- The two signals of one phase of the SPINDLE channel (R172): the active window of each in the present carrier period, in
counts from the underflow, and the counts from the moment it last became inactive to the next underflow. -/
structure PhaseSignals where
  high : Option (Nat × Nat)
  low : Option (Nat × Nat)
  highOff : Nat
  lowOff : Nat
deriving DecidableEq, Repr

/-- After reset no signal has been active; 4096 counts stand for a long time (any value of 255 or more gives no delay,
log 20). -/
def PhaseSignals.reset : PhaseSignals := { high := none, low := none, highOff := 4096, lowOff := 4096 }

/-- The SPINDLE channel. -/
structure SpinDrive where
  pattern : Pattern
  magnitude : Int
  applied : Option (Pattern × Int)
  invert : Bool
  u : PhaseSignals
  v : PhaseSignals
  w : PhaseSignals
deriving DecidableEq, Repr

def SpinDrive.reset : SpinDrive :=
  { pattern := .coast, magnitude := 0, applied := none, invert := false, u := PhaseSignals.reset, v := PhaseSignals.reset,
    w := PhaseSignals.reset }

/-- State of the Drive Output Unit and the Supply Monitor. Timers count sets. `lowUsed` is V.LOW as the latest refresh put it in
force (R178, log 56). -/
structure Drive where
  focus : Bridge
  track : Bridge
  sled : Bridge
  load : Bridge
  spindle : SpinDrive
  actuatorEnable : Bool
  spindleEnable : Bool
  supply : Option SupplyState
  sp : Int
  lowUsed : Nat
  ride : Option Nat
  restore : Option Nat
  params : SupplyParams
deriving DecidableEq, Repr

def Drive.reset : Drive :=
  { focus := Bridge.reset, track := Bridge.reset, sled := Bridge.reset, load := Bridge.reset, spindle := SpinDrive.reset,
    actuatorEnable := false, spindleEnable := false, supply := none, sp := 0, lowUsed := defaultSupplyParams.low, ride := none,
    restore := none, params := defaultSupplyParams }

/-! ## Bus Window Unit and Command Queue (spec/11) -/

/-- A bus cycle passed on to the SRAM (R180). -/
structure BusCycle where
  addr : Nat
  write : Option Word
  lanes : Lanes
deriving DecidableEq, Repr

/-- The snapshot: the offset of its group and the frozen words of the group (R188). -/
structure Snapshot where
  base : Nat
  words : List Word
deriving DecidableEq, Repr

/-- State of the Bus Window Unit. `image` holds the write image and the staging image; `passed` is the last cycle passed to
the SRAM and `answer` the last read the part answered, with the lanes it drove. -/
structure Bus where
  area : BitVec 4
  image : Memory
  snapshot : Option Snapshot
  notice : Word
  enable : Byte
  passed : Option BusCycle
  answer : Option (Word × Lanes)
deriving DecidableEq, Repr

def Bus.reset : Bus :=
  { area := 0, image := [], snapshot := none, notice := 0, enable := 0xFF, passed := none, answer := none }

/-- An APPLY PARAMETERS at the head of the queue: the reports it still awaits, one item per report, and the sum (R185). -/
structure Applying where
  awaited : List GroupPart
  sum : Nat
deriving DecidableEq, Repr

/-- State of the Command Queue. `stale` has the reports that groups handed by a flushed APPLY
PARAMETERS still bring (R186; log 23). -/
structure CmdQueue where
  queue : List Posted
  deferred : Bool
  applying : Option Applying
  stale : List GroupPart
  ring : List CompletionRec
  writeIndex : Nat
  count : Word
deriving DecidableEq, Repr

/-- A ring record whose four words are 0 (R190, note). -/
def CompletionRec.blank : CompletionRec := { tag := 0, code := 0, result := .ok, value := 0 }

def CmdQueue.reset : CmdQueue :=
  { queue := [], deferred := false, applying := none, stale := [], ring := List.replicate 16 CompletionRec.blank,
    writeIndex := 0, count := 0 }

/-! ## Trace Capture Unit (spec/12) -/

/-- Capture states (Table 12-1), in order. -/
inductive CaptureState where
  | idle | armed | triggerPending | triggered | done
deriving DecidableEq, Repr

/-- State of the Trace Capture Unit; `buffer` is indexed by servo-area offset 0x1000 + 16·i + 2·j (R194). -/
structure Capture where
  state : CaptureState
  buffer : Memory
  oldest : Nat
  valid : Nat
  trigger : Option Nat
  decim : Nat
  post : Option Nat
  params : CaptureParams
deriving DecidableEq, Repr

def Capture.reset : Capture :=
  { state := .idle, buffer := [], oldest := 0, valid := 0, trigger := none, decim := 0, post := none,
    params := defaultCaptureParams }

/-! ## Sub-steps -/

/-- The named things that come about inside a block's larger step and that have a row of their own in
spec/opcode_table.json (spec/95). -/
inductive SubStep where
  | calibrationComplete
  | holdTimeout | limitRun | sledUpdate
  | focusLock | focusClosureAbandoned | focusLost | trackingClose | trackingLock | pullInTimeout | parkTimeout
  | kickEnd | jumpBrakeEnd | jumpTimerExpiry | catchLock | catchTimeout | settleComplete | sledBrakeEnd | seekTimeout
  | defectOpen | defectClose | freezeEnd
  | shockStart | shockEnd
  | speedUpdate | regulationEntry | regulationExit
  | stallTimerExpiry | stopTimerExpiry | brakeTimerExpiry | spinCommandTimeout
  | respinTimeout | quietWaitTimeout | refTimeout | confirmTimerExpiry
  | switchChange | startEvaluation | unload | motionTimerExpiry | withdrawalTimeout | presentTimeout
  | rideTimerExpiry | restoreTimerExpiry
  | captureDone
deriving DecidableEq, Repr

end Sys2Proof.Machine
end

