-- ==== Sys2Proof/Machine/State.lean ====
section
/-! DEFINITION. State: the twelve blocks, the input levels, the events between blocks, and the queue of commands that wait;
the reset state; the reasons a step can stop. -/

namespace Sys2Proof.Machine

open Sys2Proof

/-- The machine's state. `held` tells that RESET is asserted (R1, R180). `pins` are the input levels, `clock` the microsecond
count of R107 and `instant` the microsecond of the latest sample instant (R1, log 7). `transit` lists the events that one block
has sent and another has not yet taken, in the order sent (log 2). `subs` lists the sub-steps that came about in the latest step
(log 4). `freeCount` counts the free values used (logs 8, 20). `pending` is the queue of commands that wait. -/
structure State where
  fe : FrontEnd
  loop : LoopProc
  pos : Pos
  spin : Spin
  defect : Def
  shock : Shock
  recov : Rec
  load : Load
  drive : Drive
  bus : Bus
  cq : CmdQueue
  cap : Capture
  pins : Pins
  clock : Nat
  instant : Nat
  held : Bool
  subs : List SubStep
  freeCount : Nat
  transit : List Instr
  pending : List Instr
deriving DecidableEq, Repr

/-- The faults. There is none: the spec gives every event an effect in every state. -/
inductive Fault
deriving DecidableEq, Repr

/-- The refusals. -/
inductive Refusal where
  /-- Raised by exec for a command that has no meaning in this model. Safe: the step gives no state. -/
  | notModelled (mnemonic : String)
deriving DecidableEq, Repr

/-- Input levels with every switch released (DESIGN CHOICE: the spec gives no level at power-on; log 6). -/
def releasedPins : Pins := { entry := false, centre := false, clamp := false, home := false, sledHome := false }

/-- The machine right after a power-on reset (R13, R38, R59, R76, R96, R106, R130, R152, R168, R179, R190, R194). RESET is
still asserted: the first sample instant follows its release (R1; log 1). -/
def State.reset : State :=
  { fe := FrontEnd.reset, loop := LoopProc.reset, pos := Pos.reset, spin := Spin.reset, defect := Def.reset,
    shock := Shock.reset, recov := Rec.reset, load := Load.reset, drive := Drive.reset, bus := Bus.reset,
    cq := CmdQueue.reset, cap := Capture.reset, pins := releasedPins, clock := 0, instant := 0, held := true, subs := [],
    freeCount := 0, transit := [], pending := [] }

end Sys2Proof.Machine
end

