-- ==== Sys2Proof/Machine/Ops.lean ====
section
/-! DEFINITION. The shared operations: one block at work and what it sends, the taking of an event in transit, sub-steps,
and the Command Queue's part in an offered command (R183, R184). -/

namespace Sys2Proof.Machine

open Sys2Proof

/-! ## One block at work -/

/-- How an owner answers an offer (R183). -/
inductive Answer where
  | taken
  | refused (r : Result) (value : Word)
  | deferred
deriving DecidableEq, Repr

/-- One block while it takes one event: its state, the events it has sent, in order, the sub-steps that came about, and its
answer where the event is an offered command. A block changes nothing of another block: what it has to say, it sends. -/
structure W (β : Type) where
  blk : β
  out : List Instr
  subs : List SubStep
  ans : Answer

/-- A block before it has done anything. -/
def W.start {β : Type} (b : β) : W β := { blk := b, out := [], subs := [], ans := .taken }

/-- The block sends an event. -/
def W.send {β : Type} (w : W β) (i : Instr) : W β := { w with out := w.out ++ [i] }

/-- The block sends some events, in order. -/
def W.sendAll {β : Type} (w : W β) (is : List Instr) : W β := { w with out := w.out ++ is }

/-- The block sends an event if the condition holds. -/
def W.sendIf {β : Type} (w : W β) (p : Bool) (i : Instr) : W β := if p then w.send i else w

/-- A sub-step comes about. -/
def W.note {β : Type} (w : W β) (k : SubStep) : W β := { w with subs := w.subs ++ [k] }

/-- The block's state changes. -/
def W.upd {β : Type} (w : W β) (f : β → β) : W β := { w with blk := f w.blk }

/-- The block takes a new state. -/
def W.put {β : Type} (w : W β) (b : β) : W β := { w with blk := b }

/-- The owner refuses the offer (R183). -/
def W.refuse {β : Type} (w : W β) (r : Result) (value : Word) : W β := { w with ans := .refused r value }

/-- The owner defers the offer (R183). -/
def W.defer {β : Type} (w : W β) : W β := { w with ans := .deferred }

/-- The block reports a completion to the Command Queue (R184). -/
def W.complete {β : Type} (w : W β) (tag code : Byte) (r : Result) (value : Word) : W β :=
  w.send (.completion { tag := tag, code := code, result := r, value := value })

/-! ## A block's work put back into the machine -/

/-- The Signal Front End has worked. -/
def State.putFe (s : State) (w : W FrontEnd) : State :=
  { s with fe := w.blk, transit := s.transit ++ w.out, subs := s.subs ++ w.subs }

/-- The Loop Processor has worked. -/
def State.putLoop (s : State) (w : W LoopProc) : State :=
  { s with loop := w.blk, transit := s.transit ++ w.out, subs := s.subs ++ w.subs }

/-- The Position Controller has worked. -/
def State.putPos (s : State) (w : W Pos) : State :=
  { s with pos := w.blk, transit := s.transit ++ w.out, subs := s.subs ++ w.subs }

/-- The Spindle Controller has worked. -/
def State.putSpin (s : State) (w : W Spin) : State :=
  { s with spin := w.blk, transit := s.transit ++ w.out, subs := s.subs ++ w.subs }

/-- The Defect Monitor has worked. -/
def State.putDefect (s : State) (w : W Def) : State :=
  { s with defect := w.blk, transit := s.transit ++ w.out, subs := s.subs ++ w.subs }

/-- The Shock Monitor has worked. -/
def State.putShock (s : State) (w : W Shock) : State :=
  { s with shock := w.blk, transit := s.transit ++ w.out, subs := s.subs ++ w.subs }

/-- The Recovery Controller has worked. -/
def State.putRecov (s : State) (w : W Rec) : State :=
  { s with recov := w.blk, transit := s.transit ++ w.out, subs := s.subs ++ w.subs }

/-- The Loading Controller has worked. -/
def State.putLoad (s : State) (w : W Load) : State :=
  { s with load := w.blk, transit := s.transit ++ w.out, subs := s.subs ++ w.subs }

/-- The Drive Output Unit and Supply Monitor has worked. -/
def State.putDrive (s : State) (w : W Drive) : State :=
  { s with drive := w.blk, transit := s.transit ++ w.out, subs := s.subs ++ w.subs }

/-- The Trace Capture Unit has worked. -/
def State.putCap (s : State) (w : W Capture) : State :=
  { s with cap := w.blk, transit := s.transit ++ w.out, subs := s.subs ++ w.subs }

/-! ## Reports of a group -/

/-- An owner reports a group that waited applied, with its count of clamped fields, once for each time it was handed over (R185). -/
def groupReports (g : GroupPart) (clamped times : Nat) : List Instr := List.replicate times (.groupAppliedReport g clamped)

/-! ## Taking an event -/

/-- The event is no longer in transit, and no sub-step has come about yet in this step (log 3, log 4). -/
def State.take (s : State) (i : Instr) : State := { s with transit := s.transit.erase i, subs := [] }

/-- A block takes event i: while RESET is asserted nothing happens (R1, R180); else i leaves the events in transit and f is
what the block does. -/
def State.taking (s : State) (i : Instr) (f : State → State) : State :=
  if s.held then s else f (s.take i)

/-! ## A block takes an event -/

/-- The Signal Front End takes event i. -/
def State.takeFe (s : State) (i : Instr) (f : State → W FrontEnd) : State :=
  s.taking i (fun t => t.putFe (f t))

/-- The Loop Processor takes event i. -/
def State.takeLoop (s : State) (i : Instr) (f : State → W LoopProc) : State :=
  s.taking i (fun t => t.putLoop (f t))

/-- The Position Controller takes event i. -/
def State.takePos (s : State) (i : Instr) (f : State → W Pos) : State :=
  s.taking i (fun t => t.putPos (f t))

/-- The Spindle Controller takes event i. -/
def State.takeSpin (s : State) (i : Instr) (f : State → W Spin) : State :=
  s.taking i (fun t => t.putSpin (f t))

/-- The Defect Monitor takes event i. -/
def State.takeDefect (s : State) (i : Instr) (f : State → W Def) : State :=
  s.taking i (fun t => t.putDefect (f t))

/-- The Shock Monitor takes event i. -/
def State.takeShock (s : State) (i : Instr) (f : State → W Shock) : State :=
  s.taking i (fun t => t.putShock (f t))

/-- The Recovery Controller takes event i. -/
def State.takeRecov (s : State) (i : Instr) (f : State → W Rec) : State :=
  s.taking i (fun t => t.putRecov (f t))

/-- The Loading Controller takes event i. -/
def State.takeLoad (s : State) (i : Instr) (f : State → W Load) : State :=
  s.taking i (fun t => t.putLoad (f t))

/-- The Drive Output Unit and Supply Monitor takes event i. -/
def State.takeDrive (s : State) (i : Instr) (f : State → W Drive) : State :=
  s.taking i (fun t => t.putDrive (f t))

/-- The Trace Capture Unit takes event i. -/
def State.takeCap (s : State) (i : Instr) (f : State → W Capture) : State :=
  s.taking i (fun t => t.putCap (f t))

/-- A free value has been used (log 8). -/
def State.useFree (s : State) : State := if s.held then s else { s with freeCount := s.freeCount + 1 }

/-! ## Rows that name a sub-step -/

/-- The answer of a row that names a sub-step: t is the state after the block's whole step. Where the named thing came about
in that step, t is the answer; where it did not, the step is not this row's, and nothing happens (log 4). -/
def within (k : SubStep) (t s : State) : State := if k ∈ t.subs then t else s

/-! ## Posted commands (R183, Table 11-3) -/

/-- The row of a posted command: the command that its code names, or UNKNOWN_COMMAND for a code that Table 11-3 does not
list. -/
def rowOfPosted (c : Posted) : Instr :=
  match c.code.toNat with
  | 0x01 => .nop c
  | 0x02 => .applyParameters c
  | 0x10 => .laserOn c
  | 0x11 => .laserOff c
  | 0x12 => .calibrateOffsets c
  | 0x20 => .focusOn c
  | 0x21 => .focusOff c
  | 0x22 => .trackOn c
  | 0x23 => .trackOff c
  | 0x24 => .jump c
  | 0x25 => .seek c
  | 0x26 => .setTrackReference c
  | 0x27 => .park c
  | 0x28 => .stop c
  | 0x30 => .spinCav c
  | 0x31 => .spinClv c
  | 0x32 => .spinStop c
  | 0x40 => .clearMap c
  | 0x50 => .load c
  | 0x51 => .eject c
  | 0x60 => .captureArm c
  | 0x61 => .captureTrigger c
  | 0x62 => .captureStop c
  | 0x70 => .resetServo c
  | _ => .unknownCommand c

/-- The 32-bit argument of words 1 and 2 (Table 11-2). -/
def arg32 (c : Posted) : Nat := word32 c.w1 c.w2

/-! ## The Command Queue's part -/

/-- Write a completion record (R184). -/
def CmdQueue.record (q : CmdQueue) (r : CompletionRec) : CmdQueue :=
  { q with ring := q.ring.set q.writeIndex r, writeIndex := (q.writeIndex + 1) % 16, count := q.count + 1 }

/-- The Command Queue writes a completion record and raises CMD_DONE (R184). -/
def State.recordCompletion (s : State) (r : CompletionRec) : State :=
  { s with cq := s.cq.record r, transit := s.transit ++ [.noticeRaise .cmdDone] }

/-- The Command Queue writes the completion of a command it has in hand. -/
def State.completeNow (s : State) (c : Posted) (r : Result) (value : Word) : State :=
  s.recordCompletion { tag := c.tag, code := c.code, result := r, value := value }

/-- The offer of the head of a queue. -/
def offerHead (queue : List Posted) : List Instr := (queue.take 1).map rowOfPosted

/-- The head leaves the queue, and the next command becomes the head and is offered at once (R183). -/
def State.retireHead (s : State) : State :=
  { s with cq := { s.cq with queue := s.cq.queue.tail, deferred := false, applying := none },
           transit := s.transit ++ offerHead s.cq.queue.tail }

/-- A command leaves the queue if it is the head. An urgent post is not in the queue (R182), nor is a command that the
sender offers to an owner directly (log 22). -/
def State.retire (s : State) (c : Posted) : State :=
  if s.cq.queue.head? = some c then s.retireHead else s

/-- The Command Queue's part in the owner's answer to an offer (R183). -/
def State.answered (s : State) (c : Posted) (a : Answer) : State :=
  match a with
  | .taken => s.retire c
  | .refused r v => (s.completeNow c r v).retire c
  | .deferred => if s.cq.queue.head? = some c then { s with cq := { s.cq with deferred := true } } else s

/-! ## A block answers an offered command -/

/-- The Signal Front End answers the offer of command c, whose row is i. -/
def State.offerFe (s : State) (i : Instr) (c : Posted) (f : State → W FrontEnd) : State :=
  s.taking i (fun t => let w := f t; (t.putFe w).answered c w.ans)

/-- The Position Controller answers the offer of command c, whose row is i. -/
def State.offerPos (s : State) (i : Instr) (c : Posted) (f : State → W Pos) : State :=
  s.taking i (fun t => let w := f t; (t.putPos w).answered c w.ans)

/-- The Spindle Controller answers the offer of command c, whose row is i. -/
def State.offerSpin (s : State) (i : Instr) (c : Posted) (f : State → W Spin) : State :=
  s.taking i (fun t => let w := f t; (t.putSpin w).answered c w.ans)

/-- The Defect Monitor answers the offer of command c, whose row is i. -/
def State.offerDefect (s : State) (i : Instr) (c : Posted) (f : State → W Def) : State :=
  s.taking i (fun t => let w := f t; (t.putDefect w).answered c w.ans)

/-- The Loading Controller answers the offer of command c, whose row is i. -/
def State.offerLoad (s : State) (i : Instr) (c : Posted) (f : State → W Load) : State :=
  s.taking i (fun t => let w := f t; (t.putLoad w).answered c w.ans)

/-- The Trace Capture Unit answers the offer of command c, whose row is i. -/
def State.offerCap (s : State) (i : Instr) (c : Posted) (f : State → W Capture) : State :=
  s.taking i (fun t => let w := f t; (t.putCap w).answered c w.ans)

/-! ## Images -/

/-- Words of a command slot (Table 11-1): slot k at 0x0000 + 16·k. -/
def Bus.slotWord (b : Bus) (k j : Nat) : Word := b.image.word (16 * k + 2 * j)

/-- The posted command of slot k as its image stands (R181); `urgent` for slot 15. -/
def Bus.posted (b : Bus) (k : Nat) : Posted :=
  { code := (b.slotWord k 0).lo, option := (b.slotWord k 0).hi, w1 := b.slotWord k 1, w2 := b.slotWord k 2,
    w3 := b.slotWord k 3, w4 := b.slotWord k 4, w5 := b.slotWord k 5, w6 := b.slotWord k 6,
    tag := (b.slotWord k 7).lo, urgent := decide (k = 15) }

end Sys2Proof.Machine
end

