-- ==== Sys2Proof/Machine/Angle.lean ====
section
/-! DEFINITION. The angle estimate as the Spindle Controller gives it to a neighbour that reads it (R108, R110). -/

namespace Sys2Proof.Machine

open Sys2Proof

/-- The sector (R108). -/
def Spin.sector (b : Spin) : Nat := b.edges % 24

/-- The angle is valid (R110). -/
def Spin.angleValid (b : Spin) : Bool := b.origin && b.interval.isSome

/-- The sub-count of the angle estimate at microsecond `clock` (R110). Without a latest interval the quotient has no divisor:
a free value (log 9). -/
def Spin.sub (b : Spin) (clock : Nat) : Nat :=
  if b.lastDir = some .reverse then 0
  else
    match b.interval with
    | some t => min 255 ((clock - b.edgeTime) * 256 / t)
    | none => min 255 (Config.subWithoutInterval b.edges (clock - b.edgeTime))

/-- The angle estimate (R110). -/
def Spin.angle (b : Spin) (clock : Nat) : Nat := 256 * b.sector + b.sub clock

end Sys2Proof.Machine
end

