-- ==== Sys2Proof/Machine/Codes.lean ====
section
/-! DEFINITION. The codes by which states and values are shown on the bus (R187, R191, Table 11-4). -/

namespace Sys2Proof.Machine

open Sys2Proof

/-- The code of a position state (R191). -/
def positionCode (st : PositionState) : Nat :=
  match st with
  | .idle => 0
  | .focusSearch => 1
  | .focusLocking => 2
  | .focused => 3
  | .trackPullin => 4
  | .onTrack => 5
  | .jumping => 6
  | .seeking => 7
  | .seekBrake => 8
  | .settling => 9
  | .parking => 10

/-- The code of a loop state (R187, R191). -/
def loopCode (st : LoopState) : Nat :=
  match st with
  | .off => 0
  | .opened => 1
  | .closed => 2
  | .hold => 3

/-- The code of a spindle state: its position in Table 7-3 (R187). -/
def spindleCode (st : SpindleState) : Nat :=
  match st with
  | .stopped => 0
  | .starting => 1
  | .slewing => 2
  | .regulating => 3
  | .braking => 4
  | .coasting => 5
  | .fault => 6

/-- The code of a capture state: its position in Table 12-1 (R187). -/
def captureCode (st : CaptureState) : Nat :=
  match st with
  | .idle => 0
  | .armed => 1
  | .triggerPending => 2
  | .triggered => 3
  | .done => 4

/-- The code of the supply state, 0 absent (R187). -/
def supplyCode (st : Option SupplyState) : Nat :=
  match st with
  | none => 0
  | some .ok => 1
  | some .dip => 2
  | some .low => 3

/-- The code of a recovery state (R187). -/
def recoveryCode (st : RecoveryState) : Nat :=
  match st with
  | .idle => 0
  | .active => 1
  | .failed => 2

/-- The code of a detector state (R187). -/
def detectorCode (st : Detector) : Nat :=
  match st with
  | .inactive => 0
  | .clear => 1
  | .opened => 2

/-- The code of a kind of work, 0 none (R187). -/
def workCode (k : WorkKind) : Nat :=
  match k with
  | .focusSearch => 1
  | .trackPullIn => 2
  | .park => 3
  | .jump => 4
  | .seek => 5

/-- The code of an origin of work; work that goes on with no origin shows 0 none (R187). -/
def originCode (o : Origin) : Nat :=
  match o with
  | .none => 0
  | .command _ _ => 1
  | .recovery _ => 2
  | .loading => 3

/-- The code of a motion phase (R187). -/
def phaseCode (p : Phase) : Nat :=
  match p with
  | .kick => 1
  | .brake => 2
  | .run => 3
  | .sledBrake => 4
  | .landing => 5
  | .settle => 6

/-- The code of a recovery step (R187, Table 8-2). -/
def stepCode (x : Step) : Nat :=
  match x with
  | .waitQuiet => 1
  | .respin => 2
  | .refocus => 3
  | .retrack => 4
  | .return_ => 5
  | .confirm => 6

/-- The code of a step phase (R187). -/
def stepPhaseCode (p : StepPhase) : Nat :=
  match p with
  | .quietWait => 1
  | .search => 2
  | .refWait => 3
  | .seek => 4

/-- The code of a plan's outcome (R187). -/
def outcomeCode (o : PlanOutcome) : Nat :=
  match o with
  | .done => 1
  | .failed => 2
  | .abandoned => 3

/-- The code of a spindle pattern (R187). -/
def patternCode (p : Pattern) : Nat :=
  match p with
  | .coast => 0
  | .shortBrake => 1
  | .forward _ => 2
  | .reverse _ => 3

/-- The code of a result (Table 11-4). -/
def resultCode (r : Result) : Nat :=
  match r with
  | .ok => 0
  | .okClamped => 1
  | .busy => 2
  | .notReady => 3
  | .badArgument => 4
  | .unknownCommand => 5
  | .queueFull => 6
  | .superseded => 7
  | .interrupted => 8
  | .timeout => 9
  | .notFound => 10
  | .seekFailed => 11
  | .flushed => 12
  | .noDisc => 13
  | .wrongSlot => 14

/-- A code as a word; an absent item shows 0 (log 13). -/
def optWord {α : Type} (f : α → Nat) (o : Option α) : Word := BitVec.ofNat 16 ((o.map f).getD 0)

/-- A count as a word. -/
def natWord (n : Nat) : Word := BitVec.ofNat 16 n

/-- A set of flags as bits, bit 0 first (R187). -/
def flagBits : List Bool → Nat
  | [] => 0
  | b :: bs => (if b then 1 else 0) + 2 * flagBits bs

end Sys2Proof.Machine
end

