-- ==== Sys2Proof/Machine/Capture.lean ====
section
/-! DEFINITION. Trace Capture Unit (spec/12). -/

namespace Sys2Proof.Machine

open Sys2Proof

/-! ## The record (R191, Table 11-9) -/

/-- What the Trace Capture Unit reads of its neighbours as they stand when it takes the set (R191). -/
structure CapEnv where
  position : PositionState
  focus : LoopState
  track : LoopState
  focusOut : Int
  trackOut : Int
  shock : Bool
  defect : Bool
  recovery : Bool
deriving DecidableEq, Repr

/-- The neighbours' state as it stands. -/
def State.capEnv (s : State) : CapEnv :=
  { position := s.pos.state, focus := s.loop.focus.state, track := s.loop.track.state, focusOut := s.loop.focus.last,
    trackOut := s.loop.track.last, shock := s.shock.shock, defect := decide (s.defect.det = .opened),
    recovery := decide (s.recov.state = .active) }

/-- Word 7 of a record (Table 11-9). -/
def CapEnv.flags (e : CapEnv) : Word :=
  natWord (positionCode e.position + 16 * loopCode e.focus + 64 * loopCode e.track
    + 256 * flagBits [decide (e.focus = .hold) || decide (e.track = .hold), e.shock, e.defect, e.recovery])

/-- The eight words of a record (R191). -/
def captureRecord (x : SampleSet) (e : CapEnv) : List Word :=
  [x.stamp, wordOf x.fe, wordOf x.te, wordOf x.rs, wordOf e.focusOut, wordOf e.trackOut, wordOf x.sh, e.flags]

/-- The servo-area offset of word j of buffer position i (R194). -/
def captureOffset (i j : Nat) : Nat := 0x1000 + 16 * i + 2 * j

/-- Words stored one after another from offset off. -/
def Memory.writeWords (m : Memory) (off : Nat) : List Word → Memory
  | [] => m
  | w :: ws => Memory.writeWords (m.writeWord off w) (off + 2) ws

/-- A record is written whole (R191). -/
def Capture.writeRecord (b : Capture) (i : Nat) (r : List Word) : Capture :=
  { b with buffer := b.buffer.writeWords (captureOffset i 0) r }

/-! ## Recording (R191, R192) -/

/-- The write position (R191). -/
def Capture.writePos (b : Capture) : Nat := (b.oldest + b.valid) % 256

/-- The capture is done (R191). -/
def Capture.finish (w : W Capture) : W Capture :=
  ((w.put { w.blk with state := .done }).send (.noticeRaise .captureDone)).note .captureDone

/-- A record kept in ARMED (R191). -/
def Capture.keepArmed (r : List Word) (b : Capture) : Capture :=
  let b1 := b.writeRecord b.writePos r
  if b.valid < 256 then { b1 with valid := b.valid + 1 } else { b1 with oldest := (b.oldest + 1) % 256 }

/-- Records before the trigger beyond C.PRE are dropped (R192, item 1). -/
def Capture.cut (b : Capture) : Capture :=
  if b.params.pre < b.valid then
    { b with valid := b.params.pre, oldest := (b.writePos + 256 - b.params.pre) % 256 }
  else b

/-- The trigger record (R192). -/
def Capture.keepTrigger (r : List Word) (b : Capture) : W Capture :=
  let p := b.writePos
  let b1 := b.cut.writeRecord p r
  let post := 255 - b.params.pre
  let w := W.start { b1 with trigger := some p, valid := b1.valid + 1, post := some post, state := .triggered }
  if post = 0 then Capture.finish w else w

/-- A record kept in TRIGGERED (R191). -/
def Capture.keepPost (r : List Word) (b : Capture) : W Capture :=
  let b1 := b.writeRecord b.writePos r
  let post := b.post.getD 0 - 1
  let w := W.start { b1 with valid := b.valid + 1, post := some post }
  if post = 0 then Capture.finish w else w

/-- A record is kept (R191). -/
def Capture.keep (r : List Word) (b : Capture) : W Capture :=
  match b.state with
  | .armed => W.start (b.keepArmed r)
  | .triggerPending => b.keepTrigger r
  | .triggered => b.keepPost r
  | _ => W.start b

/-- The unit counts sets in this state (R191). -/
def CaptureState.recording (st : CaptureState) : Bool :=
  decide (st = .armed) || decide (st = .triggerPending) || decide (st = .triggered)

/-- The Trace Capture Unit takes a set (R191). -/
def Capture.takeSet (x : SampleSet) (e : CapEnv) (b : Capture) : W Capture :=
  if b.state.recording then
    if b.decim < b.params.decimate - 1 then W.start { b with decim := b.decim + 1 }
    else Capture.keep (captureRecord x e) { b with decim := 0 }
  else W.start b

/-- The state after the Trace Capture Unit takes a set. -/
def State.captureSet (s : State) (x : SampleSet) : State :=
  s.takeCap (.captureSet x) (fun t => Capture.takeSet x t.capEnv t.cap)

/-- CAPTURE_SET. -/
def execCaptureSet (x : SampleSet) (s : State) : Host.Outcome State Fault Refusal := .next (s.captureSet x)

/-- CAPTURE_DONE: the set at which the capture is done (R191, R192). -/
def execCaptureDone (x : SampleSet) (s : State) : Host.Outcome State Fault Refusal :=
  .next (within .captureDone (s.captureSet x) s)

/-! ## Triggers (R192) -/

/-- The bit of C.TRIGGERS of a source (R192). -/
def triggerBit (src : TriggerSource) : Nat :=
  match src with
  | .condition => 0
  | .defectOpen => 1
  | .shockStart => 2

/-- A trigger of bit n is taken (R192). -/
def Capture.trigger_ (n : Nat) (b : Capture) : Capture :=
  if b.state = .armed ∧ b.params.triggers.testBit n = true then { b with state := .triggerPending } else b

/-- TRIGGER_EVENT. -/
def execTriggerEvent (src : TriggerSource) (s : State) : Host.Outcome State Fault Refusal :=
  .next (s.takeCap (.triggerEvent src) (fun t => W.start (t.cap.trigger_ (triggerBit src))))

/-! ## Commands (R193) -/

/-- CAPTURE ARM is offered (R193); the post count is absent from ARMED on until the trigger record (R192; spec/12, worked
sequence). -/
def Capture.arm (c : Posted) (b : Capture) : W Capture :=
  if b.state.recording then (W.start b).refuse .busy 0
  else
    (W.start { b with oldest := 0, valid := 0, decim := 0, trigger := none, post := none, state := .armed }).complete
      c.tag c.code .ok 0

/-- CAPTURE_ARM. -/
def execCaptureArm (c : Posted) (s : State) : Host.Outcome State Fault Refusal :=
  .next (s.offerCap (.captureArm c) c (fun t => Capture.arm c t.cap))

/-- CAPTURE TRIGGER is offered (R193). -/
def Capture.triggerCommand (c : Posted) (b : Capture) : W Capture :=
  if b.state = .idle then (W.start b).refuse .notReady 0
  else (W.start (b.trigger_ 3)).complete c.tag c.code .ok 0

/-- CAPTURE_TRIGGER. -/
def execCaptureTrigger (c : Posted) (s : State) : Host.Outcome State Fault Refusal :=
  .next (s.offerCap (.captureTrigger c) c (fun t => Capture.triggerCommand c t.cap))

/-- CAPTURE STOP is offered (R193); the post count is present in TRIGGERED only. -/
def Capture.stopCommand (c : Posted) (b : Capture) : W Capture :=
  (W.start (if b.state.recording then { b with state := .idle, post := none } else b)).complete c.tag c.code .ok
    (natWord b.valid)

/-- CAPTURE_STOP. -/
def execCaptureStop (c : Posted) (s : State) : Host.Outcome State Fault Refusal :=
  .next (s.offerCap (.captureStop c) c (fun t => Capture.stopCommand c t.cap))

/-! ## Group 8 and RESET SERVO (R194) -/

/-- CAPTURE_GROUP_APPLY (R194). -/
def execCaptureGroupApply (s : State) : Host.Outcome State Fault Refusal :=
  .next (s.takeCap .captureGroupApply (fun t =>
    let p := stagedCaptureParams t.bus.image
    (W.start { t.cap with params := p.1 }).send (.groupAppliedReport .capture p.2)))

/-- The unit takes RESET SERVO (R194). -/
def Capture.resetServo (b : Capture) : Capture := { b with state := .idle, decim := 0, post := none }

/-- RESET_SERVO_CAPTURE. -/
def execResetServoCapture (s : State) : Host.Outcome State Fault Refusal :=
  .next (s.takeCap .resetServoCapture (fun t => W.start t.cap.resetServo))

end Sys2Proof.Machine
end

