-- ==== Sys2Proof/Machine/FrontEnd.lean ====
section
/-! DEFINITION. Signal Front End (spec/01): sample sets, calibration, the laser enable. -/

namespace Sys2Proof.Machine

open Sys2Proof

/-! ## The sample set (R1 to R4) -/

/-- "An input beyond the converter's range converts to the nearest end of the raw range" (R2). -/
def RawSet.converted (raw : RawSet) : RawSet :=
  { raw with fe := clamp (-2048) 2047 raw.fe, te := clamp (-2048) 2047 raw.te, rs := clamp 0 4095 raw.rs,
             sh := clamp (-2048) 2047 raw.sh, sc := clamp 0 4095 raw.sc, sp := clamp 0 4095 raw.sp,
             tm := clamp 0 4095 raw.tm }

/-- The stamp of the next set (R1). -/
def FrontEnd.nextStamp (b : FrontEnd) : Word := if b.formed then b.stamp + 1 else 0

/-- SP in units of 10 mV from the raw rail conversion, with V.KSP in force (R4). -/
def scaledSp (raw : Int) (ksp : Nat) : Int := (raw * ksp + 2048) / 4096

/-- The sample set formed from converted values (R2, R4). -/
def FrontEnd.form (b : FrontEnd) (raw : RawSet) (ksp : Nat) : SampleSet :=
  { stamp := b.nextStamp, fe := clamp (-2048) 2047 (raw.fe - b.feOffset),
    te := clamp (-2048) 2047 (raw.te - b.teOffset), rs := raw.rs, sh := clamp (-2048) 2047 (raw.sh - b.shOffset),
    sc := raw.sc,
    refresh := if b.nextStamp.toNat % 64 = 63 then some { sp := scaledSp raw.sp ksp, tm := raw.tm } else none }

/-- The set as handed to each block that takes sets, in the order of the table of R3. -/
def handedSets (x : SampleSet) : List Instr :=
  [.loopSampleSet x, .positionSet x, .defectSet x, .shockSet x, .spindleSet x, .captureSet x, .recoverySet, .loadingSet,
   .supplySet x, .deferredHeadOffer]

/-- Whether an event in transit is a set handed to a block. -/
def isHandedSet : Instr → Bool
  | .loopSampleSet _ => true
  | .positionSet _ => true
  | .defectSet _ => true
  | .shockSet _ => true
  | .spindleSet _ => true
  | .captureSet _ => true
  | .recoverySet => true
  | .loadingSet => true
  | .supplySet _ => true
  | .deferredHeadOffer => true
  | _ => false

/-- A new offset from a sum of 256 raw values (R11). -/
def newOffset (sum : Int) : Int := clamp (-2048) 2047 ((sum + 128) / 256)

/-- A running calibration counts the set formed; at the 256th it completes (R11). -/
def FrontEnd.calibrate (raw : RawSet) (w : W FrontEnd) : W FrontEnd :=
  match w.blk.calibration with
  | none => w
  | some k =>
    let k' : Calibration :=
      { k with count := k.count + 1, sumFe := k.sumFe + raw.fe, sumTe := k.sumTe + raw.te, sumSh := k.sumSh + raw.sh }
    if k'.count < 256 then w.put { w.blk with calibration := some k' }
    else
      (((w.put { w.blk with calibration := none, feOffset := newOffset k'.sumFe, teOffset := newOffset k'.sumTe,
                            shOffset := newOffset k'.sumSh }).complete k.tag 0x12 .ok (wordOf (newOffset k'.sumFe))).send
        (.neighbourReport (.calibration false))).note .calibrationComplete

/-- The front end forms a set and hands it on (R1 to R4, R11). -/
def FrontEnd.sample (raw : RawSet) (ksp : Nat) (b : FrontEnd) : W FrontEnd :=
  let x := b.form raw ksp
  let b1 : FrontEnd :=
    { b with stamp := x.stamp, formed := true, sp := (x.refresh.map Refresh.sp).getD b.sp,
             tm := (x.refresh.map Refresh.tm).getD b.tm }
  ((W.start b1).sendAll (handedSets x)) |> FrontEnd.calibrate raw

/-- The microsecond of the next sample instant: 20 µs after the one before it, whatever Hall edges came between; the first after
reset comes 20 µs after the count as it stands (R1, log 7). -/
def State.nextInstant (s : State) : Nat := (if s.fe.formed then s.instant else s.clock) + 20

/-- A sample instant: the input levels are read with the set (log 6), the microsecond count has reached it, a set that a block has
not taken gives way to the newer one (R3, log 5), and the sled inner-limit switch becoming asserted is an event (R34). -/
def State.sampleInstant (s : State) (raw0 : RawSet) : State :=
  let raw := RawSet.converted raw0
  let s1 := { s with pins := raw.pins, clock := max s.clock s.nextInstant, instant := s.nextInstant,
                     transit := s.transit.filter (fun i => !isHandedSet i) }
  let s2 := s1.putFe (FrontEnd.sample raw s.drive.params.ksp s.fe)
  if raw.pins.sledHome && !s.pins.sledHome then { s2 with transit := s2.transit ++ [.sledHomeAsserted] } else s2

/-- SAMPLE_SET. -/
def execSampleSet (raw : RawSet) (s : State) : Host.Outcome State Fault Refusal :=
  .next (s.taking (.sampleSet raw) (fun t => t.sampleInstant raw))

/-- CALIBRATION_COMPLETE: the sample instant at which the calibration completes (R11). -/
def execCalibrationComplete (raw : RawSet) (s : State) : Host.Outcome State Fault Refusal :=
  .next (within .calibrationComplete (s.taking (.sampleSet raw) (fun t => t.sampleInstant raw)) s)

/-! ## Laser enable (R7 to R9) -/

/-- The LASER output (R7). -/
def FrontEnd.laserOutput (b : FrontEnd) : Bool := b.laser && b.calibration.isNone

/-- The laser-enable state is set; a change is reported to the Position Controller (R7, R40). -/
def FrontEnd.setLaser (on : Bool) (w : W FrontEnd) : W FrontEnd :=
  if w.blk.laser = on then w else (w.put { w.blk with laser := on }).send (.neighbourReport (.laser on))

/-- A running calibration is interrupted (R12). -/
def FrontEnd.interrupt (w : W FrontEnd) : W FrontEnd :=
  match w.blk.calibration with
  | none => w
  | some k =>
    ((w.put { w.blk with calibration := none }).complete k.tag 0x12 .interrupted 0).send
      (.neighbourReport (.calibration false))

/-- LASER ON or LASER OFF is offered (R8). -/
def FrontEnd.laserCommand (c : Posted) (on : Bool) (b : FrontEnd) : W FrontEnd :=
  if b.calibration.isSome then (W.start b).defer
  else (FrontEnd.setLaser on (W.start b)).complete c.tag c.code .ok 0

/-- LASER_ON. -/
def execLaserOn (c : Posted) (s : State) : Host.Outcome State Fault Refusal :=
  .next (s.offerFe (.laserOn c) c (fun t => FrontEnd.laserCommand c true t.fe))

/-- LASER_OFF. -/
def execLaserOff (c : Posted) (s : State) : Host.Outcome State Fault Refusal :=
  .next (s.offerFe (.laserOff c) c (fun t => FrontEnd.laserCommand c false t.fe))

/-- CALIBRATE OFFSETS is offered (R10). `idle` tells that the position state is IDLE. The value of a refusal is the FE offset
(R6, Table 11-3). -/
def FrontEnd.calibrateCommand (c : Posted) (idle : Bool) (b : FrontEnd) : W FrontEnd :=
  if b.calibration.isSome then (W.start b).refuse .busy (wordOf b.feOffset)
  else if !idle then (W.start b).refuse .notReady (wordOf b.feOffset)
  else
    (W.start { b with calibration := some { tag := c.tag, count := 0, sumFe := 0, sumTe := 0, sumSh := 0 } }).send
      (.neighbourReport (.calibration true))

/-- CALIBRATE_OFFSETS. -/
def execCalibrateOffsets (c : Posted) (s : State) : Host.Outcome State Fault Refusal :=
  .next (s.offerFe (.calibrateOffsets c) c (fun t => FrontEnd.calibrateCommand c (decide (t.pos.state = .idle)) t.fe))

/-- LASER_REQUEST (R9, R12). -/
def execLaserRequest (on : Bool) (s : State) : Host.Outcome State Fault Refusal :=
  .next (s.takeFe (.laserRequest on) (fun t => FrontEnd.setLaser on (FrontEnd.interrupt (W.start t.fe))))

/-- POSITION_LEAVES_IDLE (R12). -/
def execPositionLeavesIdle (s : State) : Host.Outcome State Fault Refusal :=
  .next (s.takeFe .positionLeavesIdle (fun t => FrontEnd.interrupt (W.start t.fe)))

/-- RESET_SERVO_FRONT_END (R13). -/
def execResetServoFrontEnd (s : State) : Host.Outcome State Fault Refusal :=
  .next (s.takeFe .resetServoFrontEnd (fun t => FrontEnd.setLaser false (FrontEnd.interrupt (W.start t.fe))))

end Sys2Proof.Machine
end

