-- ==== Sys2Proof/Machine/Loading.lean ====
section
/-! DEFINITION. Loading Controller (spec/09): switches, loading states, unload, LOAD and EJECT. -/

namespace Sys2Proof.Machine

open Sys2Proof

/-! ## States (Table 9-1) -/

/-- The code of a loading state (Table 9-1). -/
def loadingCode (st : LoadingState) : Nat :=
  match st with
  | .startEval => 0
  | .restoring => 1
  | .empty => 2
  | .inserting => 3
  | .clamping => 4
  | .loaded => 5
  | .unloadWait => 6
  | .ejecting => 7
  | .presented => 8
  | .jammed => 9

/-- The direction of the motor in a state: +1 pulls in, −1 pushes out, 0 is off (Table 9-1). -/
def motorDir (st : LoadingState) : Int :=
  match st with
  | .restoring => -1
  | .inserting => 1
  | .clamping => 1
  | .ejecting => -1
  | _ => 0

/-- The timeout of the motion timer in ms, in the states timed by it (Table 9-1). -/
def Load.motionLimit (b : Load) : Option Nat :=
  match b.state with
  | .restoring => some b.params.ejectTimeout
  | .inserting => some b.params.insertTimeout
  | .clamping => some b.params.clampTimeout
  | .unloadWait => some 5000
  | .ejecting => some b.params.ejectTimeout
  | _ => none

/-- The LOAD duty in force: 0 while the spindle view is other than STOPPED (R154). -/
def Load.duty (b : Load) : Int := if b.spindle = .stopped then motorDir b.state * b.params.loadDuty else 0

/-- The duty is delivered (R154). -/
def Load.deliver (w : W Load) : W Load := w.send (.dutyDelivery (.load w.blk.duty))

/-- The notices of an entry (R163). -/
def entryNotices (st : LoadingState) : List Instr :=
  match st with
  | .loaded => [.noticeRaise .loading]
  | .presented => [.noticeRaise .loading]
  | .empty => [.noticeRaise .loading]
  | .jammed => [.noticeRaise .loading, .noticeRaise .discAlert]
  | _ => []

/-- The requests and notices to other blocks of an entry (R160, R161). -/
def entryRequests (st : LoadingState) : List Instr :=
  match st with
  | .unloadWait => [.loadingParkRequest, .loadingStopRequest, .abandonmentRequest]
  | .ejecting => [.unloadNoticePosition, .unloadNoticeDefect, .unloadNoticeRecovery, .unloadNoticeSpindle]
  | _ => []

/-- The report of a loading state to the Position, Spindle and Recovery Controllers (R163); that of EJECTING goes to the
Defect Monitor too (R161). -/
def loadingReports (st : LoadingState) : List Instr :=
  [.neighbourReport (.loading st), .loadingStateReport st, .recoveryViewReport (.loading st)]
    ++ (if st = .ejecting then [.defectNeighbourReport (.loading st)] else [])

/-- A state is entered (R154, R155, R158, R160 to R163). -/
def Load.enter (st : LoadingState) (w : W Load) : W Load :=
  let b := { w.blk with state := st }
  let b1 := { b with motionTimer := b.motionLimit.map (fun _ => 0), withdrawTimer := none,
                     presentTimer := if st = .presented ∧ b.params.presentTimeout ≠ 0 then some 0 else none }
  (Load.deliver (w.put b1)).sendAll (entryRequests st ++ loadingReports st ++ entryNotices st)

/-- The loading state code as a completion value (R164). -/
def Load.value (b : Load) : Word := BitVec.ofNat 16 (loadingCode b.state)

/-- The command code of the work in flight. -/
def LoadWork.code (k : LoadWork) : Byte := if k.isLoad then 0x50 else 0x51

/-- The work in flight, if any, ends with a result; its value is the code of the state as it stands (R164). -/
def Load.endWork (r : Result) (w : W Load) : W Load :=
  match w.blk.work with
  | none => w
  | some k => (w.put { w.blk with work := none }).complete k.tag k.code r w.blk.value

/-! ## Debouncing (R153) -/

/-- One switch at one set: its debounced state, its count, and whether it changed (R153). The count is 0 after a change
(log 55). -/
def debounce (limit : Nat) (raw now : Bool) (count : Nat) : Bool × Nat × Bool :=
  if raw = now then (now, 0, false)
  else if limit ≤ count + 1 then (raw, 0, true)
  else (now, count + 1, false)

/-- The debounced switches of a set are formed (R153); at the first set they are taken from the raw levels (R168). A double
insertion raises DISC_ALERT (R159). -/
def Load.formSwitches (p : Pins) (w : W Load) : W Load :=
  let b := w.blk
  if b.seeded then
    let n := msSets b.params.debounce
    let e := debounce n p.entry b.switches.entry b.counts.entry
    let c := debounce n p.centre b.switches.centre b.counts.centre
    let k := debounce n p.clamp b.switches.clamp b.counts.clamp
    let h := debounce n p.home b.switches.home b.counts.home
    let w1 := w.put { b with switches := { entry := e.1, centre := c.1, clamp := k.1, home := h.1 },
                             counts := { entry := e.2.1, centre := c.2.1, clamp := k.2.1, home := h.2.1 } }
    let w2 := if e.2.2 || c.2.2 || k.2.2 || h.2.2 then w1.note .switchChange else w1
    w2.sendIf (e.2.2 && e.1 && (decide (b.state = .loaded) || decide (b.state = .unloadWait))) (.noticeRaise .discAlert)
  else
    w.put { b with seeded := true, switches := { entry := p.entry, centre := p.centre, clamp := p.clamp, home := p.home },
                   counts := { entry := 0, centre := 0, clamp := 0, home := 0 } }

/-! ## Timers (R155, R157, R162) -/

/-- The withdrawal timer of a set in INSERTING: started when both switches are released, counted while they stay so (R157). -/
def Load.nextWithdraw (b : Load) : Option Nat :=
  if b.state = .inserting ∧ b.switches.entry = false ∧ b.switches.centre = false then
    some (match b.withdrawTimer with
      | none => 0
      | some n => n + 1)
  else none

/-- The timers of a set; the motion timer stands still while the actuator output enable view is cleared (R155). -/
def Load.countTimers (b : Load) : Load :=
  { b with motionTimer := if b.enable then b.motionTimer.map (· + 1) else b.motionTimer,
           withdrawTimer := b.nextWithdraw, presentTimer := b.presentTimer.map (· + 1) }

/-- The motion timer has reached the timeout of the state, at a set that counts it (R155). -/
def Load.motionExpired (b : Load) : Bool :=
  match b.motionTimer, b.motionLimit with
  | some n, some limit => b.enable && decide (msSets limit ≤ n)
  | _, _ => false

/-! ## Exits (R156 to R162) -/

/-- The state that the switches show at start-up (R156). -/
def evaluated (k : Switches) : LoadingState :=
  if k.clamp then .loaded
  else if k.home then (if k.entry then .presented else .empty)
  else .restoring

/-- The motion timer takes the state to st, and a command in flight completes TIMEOUT. -/
def Load.timeOutTo (st : LoadingState) (w : W Load) : W Load :=
  (Load.endWork .timeout (Load.enter st w)).note .motionTimerExpiry

/-- The exits of the loading state are tested (R156 to R162). -/
def Load.testExits (sledHome : Bool) (w : W Load) : W Load :=
  let b := w.blk
  let k := b.switches
  match b.state with
  | .startEval => if b.spindle = .stopped then (Load.enter (evaluated k) w).note .startEvaluation else w
  | .restoring =>
    if k.home then (Load.enter (evaluated k) w).note .startEvaluation
    else if b.motionExpired then Load.timeOutTo .jammed w
    else w
  | .empty => if k.entry then Load.enter .inserting w else w
  | .inserting =>
    if k.centre then Load.enter .clamping w
    else if decide (msSets 200 ≤ b.withdrawTimer.getD 0) then
      (Load.endWork .noDisc (Load.enter .empty w)).note .withdrawalTimeout
    else if b.motionExpired then Load.timeOutTo .ejecting w
    else w
  | .clamping =>
    if k.clamp then Load.endWork .ok (Load.enter .loaded w)
    else if b.motionExpired then Load.timeOutTo .ejecting w
    else w
  | .loaded => w
  | .unloadWait =>
    if b.spindle = .stopped ∧ sledHome = true then (Load.enter .ejecting w).note .unload
    else if b.motionExpired then Load.timeOutTo .jammed w
    else w
  | .ejecting =>
    if k.home then Load.endWork .ok (Load.enter (if k.entry then .presented else .empty) w)
    else if b.motionExpired then Load.timeOutTo .jammed w
    else w
  | .presented =>
    if !k.entry then Load.enter .empty w
    else if b.params.presentTimeout ≠ 0 ∧ msSets b.params.presentTimeout ≤ b.presentTimer.getD 0 then
      (Load.enter .inserting w).note .presentTimeout
    else w
  | .jammed => w

/-- The Loading Controller takes a set (R154). -/
def Load.takeSet (p : Pins) (b : Load) : W Load :=
  Load.testExits p.sledHome ((Load.formSwitches p (W.start b)).upd Load.countTimers)

/-- The state after the Loading Controller takes a set. -/
def State.loadingSet (s : State) : State := s.takeLoad .loadingSet (fun t => Load.takeSet t.pins t.load)

/-- LOADING_SET. -/
def execLoadingSet (s : State) : Host.Outcome State Fault Refusal := .next s.loadingSet

/-- SWITCH_CHANGE (R153). -/
def execSwitchChange (s : State) : Host.Outcome State Fault Refusal := .next (within .switchChange s.loadingSet s)

/-- START_EVALUATION (R156). -/
def execStartEvaluation (s : State) : Host.Outcome State Fault Refusal := .next (within .startEvaluation s.loadingSet s)

/-- UNLOAD: the set at which UNLOAD_WAIT is left for EJECTING (R160, R161; the row's summary in the opcode table). -/
def execUnload (s : State) : Host.Outcome State Fault Refusal := .next (within .unload s.loadingSet s)

/-- MOTION_TIMER_EXPIRY (R155). -/
def execMotionTimerExpiry (s : State) : Host.Outcome State Fault Refusal :=
  .next (within .motionTimerExpiry s.loadingSet s)

/-- WITHDRAWAL_TIMEOUT (R157). -/
def execWithdrawalTimeout (s : State) : Host.Outcome State Fault Refusal :=
  .next (within .withdrawalTimeout s.loadingSet s)

/-- PRESENT_TIMEOUT (R162). -/
def execPresentTimeout (s : State) : Host.Outcome State Fault Refusal := .next (within .presentTimeout s.loadingSet s)

/-! ## Reports taken (R163) -/

/-- A neighbour's report; a change of the spindle view delivers the duty (R154). -/
def Load.takeReport (rep : LoadingReport) (b : Load) : W Load :=
  match rep with
  | .spindle st => if st = b.spindle then W.start b else Load.deliver (W.start { b with spindle := st })
  | .actuatorEnable on => W.start { b with enable := on }

/-- LOADING_VIEW_REPORT. -/
def execLoadingViewReport (rep : LoadingReport) (s : State) : Host.Outcome State Fault Refusal :=
  .next (s.takeLoad (.loadingViewReport rep) (fun t => Load.takeReport rep t.load))

/-! ## LOAD and EJECT (R164 to R166) -/

/-- A command becomes the work in flight. -/
def Load.begin_ (isLoad : Bool) (c : Posted) (w : W Load) : W Load :=
  w.put { w.blk with work := some { isLoad := isLoad, tag := c.tag } }

/-- LOAD in flight, or EJECT in flight. -/
def Load.hasWork (b : Load) (isLoad : Bool) : Bool := (b.work.map (fun k => decide (k.isLoad = isLoad))).getD false

/-- LOAD is offered (R165). -/
def Load.load (c : Posted) (b : Load) : W Load :=
  let w := W.start b
  match b.state with
  | .startEval => w.refuse .busy b.value
  | .restoring => w.refuse .busy b.value
  | .empty => w.refuse .noDisc b.value
  | .presented => Load.begin_ true c (Load.enter .inserting w)
  | .jammed => Load.begin_ true c (Load.enter .inserting w)
  | .inserting => if b.hasWork true then w.refuse .busy b.value else Load.begin_ true c w
  | .clamping => if b.hasWork true then w.refuse .busy b.value else Load.begin_ true c w
  | .loaded => w.complete c.tag c.code .ok b.value
  | .unloadWait => w.refuse .busy b.value
  | .ejecting => w.refuse .busy b.value

/-- LOAD. -/
def execLoad (c : Posted) (s : State) : Host.Outcome State Fault Refusal :=
  .next (s.offerLoad (.load c) c (fun t => Load.load c t.load))

/-- EJECT is offered (R166). -/
def Load.eject (c : Posted) (b : Load) : W Load :=
  let w := W.start b
  match b.state with
  | .startEval => w.refuse .busy b.value
  | .restoring => w.refuse .busy b.value
  | .empty => w.refuse .noDisc b.value
  | .inserting => Load.begin_ false c (Load.endWork .interrupted (Load.enter .ejecting w))
  | .clamping => Load.begin_ false c (Load.endWork .interrupted (Load.enter .ejecting w))
  | .loaded => Load.begin_ false c (Load.enter .unloadWait w)
  | .unloadWait => if b.hasWork false then w.refuse .busy b.value else Load.begin_ false c w
  | .ejecting => if b.hasWork false then w.refuse .busy b.value else Load.begin_ false c w
  | .presented => w.complete c.tag c.code .ok b.value
  | .jammed => Load.begin_ false c (Load.enter .ejecting w)

/-- EJECT. -/
def execEject (c : Posted) (s : State) : Host.Outcome State Fault Refusal :=
  .next (s.offerLoad (.eject c) c (fun t => Load.eject c t.load))

/-! ## RESET SERVO and group 8 -/

/-- RESET_SERVO_LOADING (R168): the motion goes on, with no command. -/
def execResetServoLoading (s : State) : Host.Outcome State Fault Refusal :=
  .next (s.takeLoad .resetServoLoading (fun t => Load.endWork .interrupted (W.start t.load)))

/-- The present timer after an apply (R167, log 25). -/
def Load.appliedPresent (b : Load) (limit : Nat) : Option Nat :=
  if b.state = .presented ∧ limit ≠ 0 then some (b.presentTimer.getD 0) else none

/-- The loading members of group 8 are applied (R167). The new L.LOAD_DUTY is what any delivery after the apply gives: an entry by
LOAD or EJECT, or a change of the spindle view, before the next set delivers it too (log 58). The motor runs in a driving state
with the spindle view STOPPED, whatever the actuator output enable view (log 62). -/
def Load.applyGroup (img : Memory) (b : Load) : W Load :=
  let p := stagedLoadingParams img
  let w := W.start { b with params := p.1, presentTimer := b.appliedPresent p.1.presentTimeout }
  let w1 := if b.spindle = .stopped ∧ motorDir b.state ≠ 0 then Load.deliver w else w
  w1.send (.groupAppliedReport .loading p.2)

/-- LOADING_GROUP_APPLY. -/
def execLoadingGroupApply (s : State) : Host.Outcome State Fault Refusal :=
  .next (s.takeLoad .loadingGroupApply (fun t => Load.applyGroup t.bus.image t.load))

end Sys2Proof.Machine
end

