-- ==== Sys2Proof/Machine/PosBase.lean ====
section
/-! DEFINITION. Position Controller (spec/03, spec/04), shared operations: the work in flight, the reports of the position state
and of the track counter, requests to the loops and the sled, the start of each kind of work. -/

namespace Sys2Proof.Machine

open Sys2Proof

/-- What the Position Controller reads of other blocks as it stands: the SLED_HOME input (R40), the tracking lock indicator
(R63), and the group 2 values of a run and a brake (R69). -/
structure PosEnv where
  home : Bool
  trackLock : Bool
  seekDuty : Nat
  brakeDuty : Nat
  brakeTime : Nat
deriving DecidableEq, Repr

/-- The environment of the Position Controller in a state. -/
def State.posEnv (s : State) : PosEnv :=
  { home := s.pins.sledHome, trackLock := s.loop.track.lock, seekDuty := s.loop.sled.params.seekDuty,
    brakeDuty := s.loop.sled.params.brakeDuty, brakeTime := s.loop.sled.params.brakeTime }

/-! ## Reports of the block's own state -/

/-- The position state is set; a change is reported to the Signal Front End (which acts only on the leaving of IDLE, R12), the
Defect Monitor and the Recovery Controller (R40). The Trace Capture Unit reads it as it stands. The loss run is set to 0 at
entry to FOCUSED (R46). -/
def Pos.setState (st : PositionState) (w : W Pos) : W Pos :=
  if w.blk.state = st then w
  else
    ((w.put { w.blk with state := st, lossRun := if st = .focused then 0 else w.blk.lossRun }).sendIf
        (decide (w.blk.state = .idle)) .positionLeavesIdle).sendAll
      [.defectNeighbourReport (.position st), .recoveryViewReport (.position st)]

/-- Counter and valid flag are set; a change is reported to the Defect Monitor, the Spindle Controller and the Recovery
Controller (R61). -/
def Pos.setCounter (c : Nat) (valid : Bool) (w : W Pos) : W Pos :=
  if w.blk.counter = c ∧ w.blk.valid = valid then w
  else
    (w.put { w.blk with counter := c, valid := valid }).sendAll
      [.defectNeighbourReport (.counter c valid), .trackCounterReport c valid, .recoveryViewReport (.counter c valid)]

/-- The counter takes a step of d; a step beyond 0 or 65535 leaves it and clears the flag (R61). -/
def Pos.stepCounter (d : Int) (w : W Pos) : W Pos :=
  let c : Int := w.blk.counter + d
  if c < 0 ∨ 65535 < c then Pos.setCounter w.blk.counter false w else Pos.setCounter c.toNat w.blk.valid w

/-- The completion value of a command whose work is in flight: the sweep count of a focus search, 0 of a park, else the
counter (R51, R53, R55, R65, R68). -/
def Pos.valueOf (b : Pos) (k : WorkKind) : Word :=
  match k with
  | .focusSearch => BitVec.ofNat 16 ((b.search.map SearchRec.sweeps).getD 0)
  | .park => 0
  | _ => BitVec.ofNat 16 b.counter

/-- The work in flight ends: command work completes with the result and its command's value, recovery work reports the outcome
where there is one, other work ends silently (R39). -/
def Pos.endWork (r : Result) (o : Option StepOutcome) (w : W Pos) : W Pos :=
  match w.blk.work with
  | none => w
  | some k =>
    let w1 := w.put { w.blk with work := none }
    match k.origin, o with
    | .command tag code, _ => w1.complete tag code r (w.blk.valueOf k.kind)
    | .recovery n, some o => w1.send (.stepReport n o)
    | _, _ => w1

/-- The work in flight ends before its time: command work INTERRUPTED, recovery and loading work without a report (R39). -/
def Pos.interruptWork (w : W Pos) : W Pos := Pos.endWork .interrupted none w

/-- The work in flight is of host command origin. -/
def Pos.hostWork (b : Pos) : Bool :=
  match b.work with
  | some { kind := _, origin := .command _ _ } => true
  | _ => false

/-! ## Requests to the loops, the sled and the Signal Front End -/

/-- A focus OFF request is sent. -/
def Pos.focusToOff (w : W Pos) : W Pos := w.send (.positionRequest .focus .off)

/-- A tracking OFF request is sent. -/
def Pos.trackToOff (w : W Pos) : W Pos := w.send (.positionRequest .track .off)

/-- The phase drives the sled and gives the Spindle Controller the seek target (Table 4-1, R69). -/
def Phase.driven : Phase → Bool
  | .run => true
  | .sledBrake => true
  | _ => false

/-- A sled run or sled brake is in flight. -/
def Pos.inRun (b : Pos) : Bool := (b.motion.map (fun m => m.phase.driven)).getD false

/-- The sled is in mode DRIVEN for this block: a park, a sled run or a sled brake (Table 3-1, Table 4-1). -/
def Pos.sledDriven (b : Pos) : Bool := decide (b.state = .parking) || b.inRun

/-- A sled that this block drives returns to mode LOOP, and a seek target that the Spindle Controller holds is withdrawn (R69,
R73). -/
def Pos.releaseSled (w : W Pos) : W Pos :=
  (w.sendIf w.blk.sledDriven (.sledRequest .toLoop)).sendIf w.blk.inRun (.seekTargetSend none)

/-- The records of a search, a pull-in, a park and a motion are discarded. -/
def Pos.dropRecords (w : W Pos) : W Pos :=
  w.put { w.blk with search := none, pull := none, parkTimer := none, motion := none }

/-! ## The start of each kind of work -/

/-- A pull-in record at its start (R48, step 1). -/
def Pos.newPull (b : Pos) : PullIn :=
  { quiet := 0, lastCross := b.lastStamp, lockRun := 0, elapsed := 0, closed := false }

/-- A focus search starts (R42); the work before it has ended. -/
def Pos.startSearch (origin : Origin) (w : W Pos) : W Pos :=
  let w1 := (w.sendIf (!w.blk.views.laser) (.laserRequest true)).send (.positionRequest .focus (.openWith 0))
  let w2 := Pos.dropRecords (Pos.releaseSled w1)
  Pos.setState .focusSearch
    (w2.put { w2.blk with work := some { kind := .focusSearch, origin := origin },
                          search := some { drive := 0, up := false, sweeps := 0 }, prevFe := none, lockRun := 0,
                          lossRun := 0 })

/-- A tracking pull-in starts (R48). -/
def Pos.startPullIn (origin : Origin) (w : W Pos) : W Pos :=
  let w1 := w.put { w.blk with pull := some w.blk.newPull, work := some { kind := .trackPullIn, origin := origin } }
  let w2 := if w.blk.views.track = .off then w1 else Pos.trackToOff w1
  Pos.setState .trackPullin w2

/-- A park starts (R55). -/
def Pos.startPark (origin : Origin) (e : PosEnv) (w : W Pos) : W Pos :=
  let w1 := Pos.trackToOff (Pos.focusToOff (Pos.interruptWork w))
  let w2 := w1.sendIf w1.blk.inRun (.seekTargetSend none)
  let w3 := (Pos.dropRecords w2).sendAll [.laserRequest false, .sledRequest (.driven (-(e.seekDuty : Int)))]
  Pos.setState .parking
    (w3.put { w3.blk with parkTimer := some 0, work := some { kind := .park, origin := origin } })

/-- A park ends (R55): the sled returns to mode LOOP, the timer is discarded, the state becomes IDLE. -/
def Pos.endPark (r : Result) (w : W Pos) : W Pos :=
  let w1 := Pos.endWork r none (w.send (.sledRequest .toLoop))
  Pos.setState .idle (w1.put { w1.blk with parkTimer := none })

/-- A motion record at the take of a JUMP or SEEK, before its first phase is set. -/
def Motion.fresh (isSeek : Bool) (target : Nat) (clamped : Bool) : Motion :=
  { isSeek := isSeek, phase := .kick, dir := 1, jumpCount := 0, jumpTarget := none, seekTarget := target,
    clamped := clamped, corrections := 0, retargeted := false, timedOut := false, jumpTimer := none, jumpSets := 0,
    seekTimer := 0, brakeCount := 0, pull := none, settleCount := 0 }

/-- The remaining distance of a seek (R69). -/
def Motion.remaining (m : Motion) (counter : Nat) : Int := m.dir * ((m.seekTarget : Int) - counter)

/-- A jump of n starts in motion record m (R66), aiming at `target`. -/
def Pos.startJump (m : Motion) (n : Int) (target : Option Int) (w : W Pos) : W Pos :=
  let d := signOf n
  let w1 := w.put { w.blk with motion := some { m with phase := .kick, dir := d, jumpCount := n.natAbs, jumpTarget := target,
                                                       timedOut := false, jumpTimer := some 0,
                                                       jumpSets := msSets (2 + n.natAbs), pull := none } }
  (Pos.setState .jumping w1).send (.positionRequest .track (.openWith (d * w.blk.params.kickDuty)))

/-- A sled run starts in motion record m (R69). -/
def Pos.startRun (m : Motion) (e : PosEnv) (w : W Pos) : W Pos :=
  let d := signOf ((m.seekTarget : Int) - w.blk.counter)
  let w1 := w.put { w.blk with motion := some { m with phase := .run, dir := d, retargeted := false, pull := none } }
  (Pos.setState .seeking w1).sendAll
    [.positionRequest .track (.openWith 0), .sledRequest (.driven (d * e.seekDuty)), .seekTargetSend (some m.seekTarget)]

/-- The landing begins (R67): phase CATCH, state SETTLING, a catch record. -/
def Pos.startLanding (m : Motion) (w : W Pos) : W Pos :=
  Pos.setState .settling
    (w.put { w.blk with motion := some { m with phase := .landing, jumpTimer := none, pull := some w.blk.newPull } })

/-- The sled brake ends (R69). -/
def Pos.endSledBrake (m : Motion) (w : W Pos) : W Pos :=
  (Pos.startLanding m (w.sendAll [.sledRequest .toLoop, .seekTargetSend none])).note .sledBrakeEnd

/-- The sled brake begins (R69); with S.BRAKE_TIME = 0 the landing begins at once, where a retarget between two sets begins the
brake (R72) too (log 61). -/
def Pos.startSledBrake (m : Motion) (e : PosEnv) (w : W Pos) : W Pos :=
  let m1 := { m with phase := .sledBrake, brakeCount := 0 }
  let w1 := (Pos.setState .seekBrake (w.put { w.blk with motion := some m1 })).send
    (.sledRequest (.driven (-(m.dir * e.brakeDuty))))
  if e.brakeTime = 0 then Pos.endSledBrake m1 w1 else w1

/-- The motion ends with its record discarded and the position state st. -/
def Pos.endMotion (st : PositionState) (r : Result) (o : Option StepOutcome) (w : W Pos) : W Pos :=
  let w1 := Pos.endWork r o w
  Pos.setState st (w1.put { w1.blk with motion := none })

/-- A seek whose target lies D = target − counter away (R68): a jump, or a sled run. -/
def Pos.startMove (m : Motion) (e : PosEnv) (w : W Pos) : W Pos :=
  let dist : Int := m.seekTarget - w.blk.counter
  if dist.natAbs ≤ 16 then Pos.startJump m dist (some m.seekTarget) w else Pos.startRun m e w

/-- A motion in flight is ended by STOP or an abort (R73): the spot is pulled in where it lands, with no origin. -/
def Pos.endMotionEarly (m : Motion) (w : W Pos) : W Pos :=
  let w1 := Pos.interruptWork w
  let pulled : Work := { kind := .trackPullIn, origin := .none }
  match m.phase with
  | .settle => Pos.setState .onTrack (w1.put { w1.blk with motion := none })
  | .landing =>
    Pos.setState .trackPullin (w1.put { w1.blk with motion := none, pull := m.pull, work := some pulled })
  | _ =>
    let w2 := (Pos.releaseSled w1).send (.positionRequest .track (.drive 0))
    Pos.setState .trackPullin
      (w2.put { w2.blk with motion := none, pull := some w2.blk.newPull, work := some pulled })

end Sys2Proof.Machine
end

