-- ==== Sys2Proof/Machine/PosEvents.lean ====
section
/-! DEFINITION. Position Controller (spec/03, spec/04): reports, requests of the Recovery and Loading Controllers, and its
commands. -/

namespace Sys2Proof.Machine

open Sys2Proof

/-! ## Reports taken (R40, R47, R61, R62) -/

/-- REVOLUTION_MARKER_POSITION (R61): the spot that follows the spiral moves outward by one track. -/
def execRevolutionMarkerPosition (s : State) : Host.Outcome State Fault Refusal :=
  .next (s.takePos .revolutionMarkerPosition (fun t =>
    if t.pos.views.track = .closed ∨ t.pos.views.track = .hold then Pos.stepCounter 1 (W.start t.pos)
    else W.start t.pos))

/-- The loss of a loop without a request (R47). `focusGone` tells that the focus loop is reported OFF. -/
def Pos.loopGone (focusGone : Bool) (w : W Pos) : W Pos :=
  let dropped (st : PositionState) : W Pos :=
    Pos.setState st (Pos.dropRecords (Pos.releaseSled (Pos.interruptWork w)))
  match w.blk.state with
  | .idle => w
  | .parking => w
  | .focusSearch => dropped .idle
  | .focusLocking => dropped .idle
  | .focused => dropped .idle
  | _ => dropped (if focusGone then .idle else .focused)

/-- The position state requires the tracking loop OPEN, CLOSED or HOLD (Table 3-1, Table 4-1): a pull-in once it has sent its
CLOSE, ON_TRACK, and every motion. -/
def Pos.needsTracking (b : Pos) : Bool :=
  match b.state with
  | .trackPullin => (b.pull.map PullIn.closed).getD false
  | .onTrack => true
  | .jumping => true
  | .seeking => true
  | .seekBrake => true
  | .settling => true
  | _ => false

/-- CLOSED or HOLD, as last reported. -/
def loopClosedView (st : LoopState) : Bool := decide (st = .closed) || decide (st = .hold)

/-- A tracking loop that held the spot in SETTLE is reported OPEN (R67). -/
def Pos.settleOpened (b : Pos) (st : LoopState) : Bool :=
  decide (st = .opened) && loopClosedView b.views.track
    && (b.motion.map (fun m => decide (m.phase = .settle))).getD false

/-- A report of the Loop Processor is taken (R40, R47, R62). An OFF that was requested is no loss of a loop (R47, log 15); a
tracking loop reported OPEN in SETTLE is (R67). -/
def Pos.loopReport (rep : LoopReport) (b : Pos) : W Pos :=
  match rep with
  | .state .focus st asked =>
    let w := W.start { b with views := { b.views with focus := st } }
    if st = .off ∧ asked = false then Pos.loopGone true w else w
  | .state .track st asked =>
    let w := W.start { b with views := { b.views with track := st } }
    if (st = .off ∧ asked = false ∧ b.needsTracking = true) ∨ b.settleOpened st = true then
      Pos.loopGone (decide (b.views.focus = .off)) w
    else w
  | .focusIn => W.start b
  | .focusOut => Pos.setCounter b.counter false (W.start b)

/-- LOOP_STATE_REPORT. -/
def execLoopStateReport (rep : LoopReport) (s : State) : Host.Outcome State Fault Refusal :=
  .next (s.takePos (.loopStateReport rep) (fun t => Pos.loopReport rep t.pos))

/-- TRACKING_OFF_NOTICE (R16, R47; log 17). -/
def execTrackingOffNotice (s : State) : Host.Outcome State Fault Refusal :=
  .next (s.takePos .trackingOffNotice (fun t => Pos.loopGone (decide (t.pos.views.focus = .off)) (W.start t.pos)))

/-- The views after a neighbour's report (R40). -/
def PosViews.take (v : PosViews) (rep : NeighbourReport) : PosViews :=
  match rep with
  | .holdSource h => { v with held := h }
  | .loading st => { v with loading := st }
  | .spindle st => { v with spindle := st }
  | .laser on => { v with laser := on }
  | .calibration r => { v with calibrating := r }
  | .recovery st => { v with recovery := st }

/-- NEIGHBOUR_REPORT (R40). -/
def execNeighbourReport (rep : NeighbourReport) (s : State) : Host.Outcome State Fault Refusal :=
  .next (s.takePos (.neighbourReport rep) (fun t => W.start { t.pos with views := t.pos.views.take rep }))

/-- REFERENCE_WAIT_REPORT (R64). -/
def execReferenceWaitReport (waiting : Bool) (s : State) : Host.Outcome State Fault Refusal :=
  .next (s.takePos (.referenceWaitReport waiting) (fun t =>
    W.start { t.pos with views := { t.pos.views with refWait := waiting } }))

/-- UNLOAD_NOTICE_POSITION (R62). -/
def execUnloadNoticePosition (s : State) : Host.Outcome State Fault Refusal :=
  .next (s.takePos .unloadNoticePosition (fun t => Pos.setCounter t.pos.counter false (W.start t.pos)))

/-! ## Endings shared by commands and requests -/

/-- A focus search is ended by STOP or an abort (R56). -/
def Pos.stopSearch (w : W Pos) : W Pos :=
  let w1 := Pos.focusToOff (Pos.interruptWork w)
  Pos.setState .idle (w1.put { w1.blk with search := none })

/-- FOCUS OFF's work and the release request's (R52, R57); in IDLE nothing changes. -/
def Pos.release (w : W Pos) : W Pos :=
  match w.blk.state with
  | .idle => w
  | _ =>
    Pos.setState .idle (Pos.dropRecords (Pos.releaseSled (Pos.trackToOff (Pos.focusToOff (Pos.interruptWork w)))))

/-- The spindle turns fast enough for a pull-in (R53, R57). -/
def Pos.spindleUp (b : Pos) : Bool := decide (b.views.spindle = .slewing) || decide (b.views.spindle = .regulating)

/-- A recovery plan is reported ACTIVE (R41). -/
def Pos.planActive (b : Pos) : Bool := decide (b.views.recovery = .active)

/-! ## Requests of the Recovery Controller (R57, R74) -/

/-- The abort request (R57, R73). -/
def Pos.abort (w : W Pos) : W Pos :=
  match w.blk.state, w.blk.motion with
  | .focusSearch, _ => Pos.stopSearch w
  | .focusLocking, _ => Pos.stopSearch w
  | .trackPullin, _ =>
    let w1 := Pos.trackToOff (Pos.interruptWork w)
    Pos.setState .focused (w1.put { w1.blk with pull := none })
  | .parking, _ => Pos.endPark .interrupted w
  | _, some m => Pos.endMotionEarly m w
  | _, none => w

/-- RECOVERY_ABORT. -/
def execRecoveryAbort (s : State) : Host.Outcome State Fault Refusal :=
  .next (s.takePos .recoveryAbort (fun t => Pos.abort (W.start t.pos)))

/-- RECOVERY_SEARCH (R57, R42). -/
def execRecoverySearch (n : BitVec 8) (s : State) : Host.Outcome State Fault Refusal :=
  .next (s.takePos (.recoverySearch n) (fun t =>
    Pos.startSearch (.recovery n) (Pos.interruptWork (W.start t.pos))))

/-- The pull-in request (R57). -/
def Pos.recoveryPullIn (n : BitVec 8) (b : Pos) : W Pos :=
  match b.state with
  | .onTrack => (W.start b).send (.stepReport n .done)
  | .focused =>
    if b.spindleUp then Pos.startPullIn (.recovery n) (Pos.interruptWork (W.start b))
    else (W.start b).send (.stepReport n .failed)
  | _ => (W.start b).send (.stepReport n .failed)

/-- RECOVERY_PULL_IN. -/
def execRecoveryPullIn (n : BitVec 8) (s : State) : Host.Outcome State Fault Refusal :=
  .next (s.takePos (.recoveryPullIn n) (fun t => Pos.recoveryPullIn n t.pos))

/-- RECOVERY_RELEASE (R57). -/
def execRecoveryRelease (s : State) : Host.Outcome State Fault Refusal :=
  .next (s.takePos .recoveryRelease (fun t => Pos.release (W.start t.pos)))

/-- A seek of recovery origin is in flight. -/
def Pos.recoverySeeking (b : Pos) : Bool :=
  (b.motion.map Motion.isSeek).getD false
    && (match b.work with
        | some { kind := _, origin := .recovery _ } => true
        | _ => false)

/-- The first of two recovery seeks ends where the second has no way to go (R73, R74). -/
def Pos.endFirstSeek (b : Pos) : W Pos :=
  match b.motion with
  | some m => Pos.endMotionEarly m (W.start b)
  | none => W.start b

/-- The seek request (R74). A second one during the first ends the first without a report and starts afresh. At distance 0 it
is DONE at once; the first then ends as a motion ends early (R73), and the spot is pulled in where it lands (log 18). -/
def Pos.recoverySeek (n : BitVec 8) (target : Nat) (e : PosEnv) (b : Pos) : W Pos :=
  let t := min target b.params.trackMax
  let work : Work := { kind := .seek, origin := .recovery n }
  let m := Motion.fresh true t false
  if b.valid && decide (b.state = .onTrack) then
    let w := Pos.interruptWork (W.start b)
    if t = b.counter then w.send (.stepReport n .done)
    else Pos.startMove m e (w.put { w.blk with work := some work })
  else if b.valid && b.recoverySeeking then
    if t = b.counter then (Pos.endFirstSeek b).send (.stepReport n .done)
    else
      let w := Pos.releaseSled (Pos.interruptWork (W.start b))
      Pos.startMove m e (w.put { w.blk with work := some work, motion := none })
  else (W.start b).send (.stepReport n .failed)

/-- RECOVERY_SEEK. -/
def execRecoverySeek (n : BitVec 8) (target : Nat) (s : State) : Host.Outcome State Fault Refusal :=
  .next (s.takePos (.recoverySeek n target) (fun t => Pos.recoverySeek n target t.posEnv t.pos))

/-! ## The park request of the Loading Controller (R55) -/

/-- LOADING_PARK_REQUEST: absorbed while a park is in flight. -/
def execLoadingParkRequest (s : State) : Host.Outcome State Fault Refusal :=
  .next (s.takePos .loadingParkRequest (fun t =>
    match t.pos.state with
    | .parking => W.start t.pos
    | _ => Pos.startPark .loading t.posEnv (W.start t.pos)))

/-! ## Commands -/

/-- Each host command taken is told to the Recovery Controller (R39). -/
def Pos.commandTaken (b : Pos) : W Pos := (W.start b).send .positionCommandTakenNotice

/-- The counter as a completion value. -/
def Pos.counterValue (b : Pos) : Word := BitVec.ofNat 16 b.counter

/-- The origin of a command. -/
def originOf (c : Posted) : Origin := .command c.tag c.code

/-- FOCUS ON is offered (R41, R51). `free` is the free value of a refusal (log 8). -/
def Pos.focusOn (c : Posted) (free : Word) (b : Pos) : W Pos :=
  if b.planActive then (W.start b).defer
  else if b.views.loading ≠ .loaded then (W.start b).refuse .noDisc free
  else
    match b.state with
    | .idle =>
      if b.views.calibrating then (W.start b).refuse .busy free else Pos.startSearch (originOf c) b.commandTaken
    | .focusSearch => (W.start b).refuse .busy free
    | .focusLocking => (W.start b).refuse .busy free
    | .parking => (W.start b).refuse .busy free
    | _ => b.commandTaken.complete c.tag c.code .ok 0

/-- FOCUS_ON. -/
def execFocusOn (c : Posted) (s : State) : Host.Outcome State Fault Refusal :=
  .next (s.useFree.offerPos (.focusOn c) c (fun t => Pos.focusOn c (Config.unstatedValue s.freeCount) t.pos))

/-- FOCUS OFF is offered (R41, R52). -/
def Pos.focusOff (c : Posted) (b : Pos) : W Pos :=
  if b.planActive then (W.start b).defer
  else (Pos.release b.commandTaken).complete c.tag c.code .ok 0

/-- FOCUS_OFF. -/
def execFocusOff (c : Posted) (s : State) : Host.Outcome State Fault Refusal :=
  .next (s.offerPos (.focusOff c) c (fun t => Pos.focusOff c t.pos))

/-- TRACK ON is offered (R41, R53). -/
def Pos.trackOn (c : Posted) (b : Pos) : W Pos :=
  if b.planActive then (W.start b).defer
  else if b.views.loading ≠ .loaded then (W.start b).refuse .noDisc b.counterValue
  else
    match b.state with
    | .focused =>
      if b.spindleUp then Pos.startPullIn (originOf c) b.commandTaken
      else (W.start b).refuse .notReady b.counterValue
    | .idle => (W.start b).refuse .notReady b.counterValue
    | .focusSearch => (W.start b).refuse .notReady b.counterValue
    | .focusLocking => (W.start b).refuse .notReady b.counterValue
    | .parking => (W.start b).refuse .notReady b.counterValue
    | .onTrack => b.commandTaken.complete c.tag c.code .ok b.counterValue
    | _ => (W.start b).refuse .busy b.counterValue

/-- TRACK_ON. -/
def execTrackOn (c : Posted) (s : State) : Host.Outcome State Fault Refusal :=
  .next (s.offerPos (.trackOn c) c (fun t => Pos.trackOn c t.pos))

/-- The action of TRACK OFF (R54, R73). -/
def Pos.trackOffAction (w : W Pos) : W Pos :=
  match w.blk.state with
  | .trackPullin =>
    let w1 := Pos.trackToOff (Pos.interruptWork w)
    Pos.setState .focused (w1.put { w1.blk with pull := none })
  | .onTrack => Pos.setState .focused (Pos.trackToOff w)
  | .jumping => Pos.setState .focused (Pos.dropRecords (Pos.trackToOff (Pos.releaseSled (Pos.interruptWork w))))
  | .seeking => Pos.setState .focused (Pos.dropRecords (Pos.trackToOff (Pos.releaseSled (Pos.interruptWork w))))
  | .seekBrake => Pos.setState .focused (Pos.dropRecords (Pos.trackToOff (Pos.releaseSled (Pos.interruptWork w))))
  | .settling => Pos.setState .focused (Pos.dropRecords (Pos.trackToOff (Pos.releaseSled (Pos.interruptWork w))))
  | _ => w

/-- TRACK OFF is offered (R41, R54). -/
def Pos.trackOff (c : Posted) (b : Pos) : W Pos :=
  if b.planActive then (W.start b).defer
  else (Pos.trackOffAction b.commandTaken).complete c.tag c.code .ok b.counterValue

/-- TRACK_OFF. -/
def execTrackOff (c : Posted) (s : State) : Host.Outcome State Fault Refusal :=
  .next (s.offerPos (.trackOff c) c (fun t => Pos.trackOff c t.pos))

/-- PARK is offered (R41, R55). -/
def Pos.park (c : Posted) (e : PosEnv) (b : Pos) : W Pos :=
  if b.planActive then (W.start b).defer
  else
    match b.state with
    | .parking =>
      if b.hostWork then (W.start b).refuse .busy 0
      else W.put b.commandTaken { b with work := some { kind := .park, origin := originOf c } }
    | _ => Pos.startPark (originOf c) e b.commandTaken

/-- PARK. -/
def execPark (c : Posted) (s : State) : Host.Outcome State Fault Refusal :=
  .next (s.offerPos (.park c) c (fun t => Pos.park c t.posEnv t.pos))

/-- The Position Controller's action on STOP (R56, R73). -/
def Pos.stopAction (w : W Pos) : W Pos :=
  match w.blk.state, w.blk.motion with
  | .focusSearch, _ => Pos.stopSearch w
  | .focusLocking, _ => Pos.stopSearch w
  | .trackPullin, _ =>
    match w.blk.work with
    | some { kind := k, origin := .recovery _ } => w.put { w.blk with work := some { kind := k, origin := .none } }
    | _ => w
  | .parking, _ => Pos.endPark .interrupted w
  | _, some m => Pos.endMotionEarly m w
  | _, none => w

/-- STOP is handed to the Position Controller (R56): taken at every offer. -/
def Pos.stop (c : Posted) (b : Pos) : W Pos :=
  (Pos.stopAction b.commandTaken).complete c.tag c.code .ok b.counterValue

/-- JUMP is offered (R65, R66). -/
def Pos.jump (c : Posted) (b : Pos) : W Pos :=
  let n := c.w1.toInt
  if b.planActive then (W.start b).defer
  else if 16 < n.natAbs then (W.start b).refuse .badArgument b.counterValue
  else if n = 0 then b.commandTaken.complete c.tag c.code .ok b.counterValue
  else if b.motion.isSome then (W.start b).defer
  else if b.state ≠ .onTrack then (W.start b).refuse .notReady b.counterValue
  else
    let w := b.commandTaken
    Pos.startJump (Motion.fresh false 0 false) n (if b.valid then some (b.counter + n) else none)
      (w.put { w.blk with work := some { kind := .jump, origin := originOf c } })

/-- JUMP. -/
def execJump (c : Posted) (s : State) : Host.Outcome State Fault Refusal :=
  .next (s.offerPos (.jump c) c (fun t => Pos.jump c t.pos))

/-- A SEEK taken as a retarget (R72). -/
def Pos.retarget (c : Posted) (e : PosEnv) (m0 : Motion) (b : Pos) : W Pos :=
  let t := min (arg32 c) b.params.trackMax
  let w0 := Pos.endWork .superseded none b.commandTaken
  let m := { m0 with seekTarget := t, clamped := decide (t ≠ arg32 c), corrections := 0, seekTimer := 0 }
  let w := w0.put { w0.blk with work := some { kind := .seek, origin := originOf c }, motion := some m }
  let marked := { m with retargeted := true }
  match m.phase with
  | .run =>
    if b.params.brakeDist < m.remaining b.counter then w.send (.seekTargetSend (some t))
    else Pos.startSledBrake marked e w
  | .sledBrake => (w.put { w.blk with motion := some marked }).send (.seekTargetSend (some t))
  | _ => w.put { w.blk with motion := some marked }

/-- A SEEK taken from ON_TRACK (R68). -/
def Pos.newSeek (c : Posted) (e : PosEnv) (b : Pos) : W Pos :=
  let t := min (arg32 c) b.params.trackMax
  let clamped := decide (t ≠ arg32 c)
  let w := b.commandTaken
  if t = b.counter then w.complete c.tag c.code (if clamped then .okClamped else .ok) b.counterValue
  else
    Pos.startMove (Motion.fresh true t clamped) e
      (w.put { w.blk with work := some { kind := .seek, origin := originOf c } })

/-- SEEK is offered (R68). -/
def Pos.seek (c : Posted) (e : PosEnv) (b : Pos) : W Pos :=
  if b.planActive then (W.start b).defer
  else
    match b.motion with
    | some m =>
      if m.isSeek && b.hostWork && decide (b.state ≠ .jumping) then Pos.retarget c e m b
      else if !m.isSeek || decide (b.state = .jumping) then (W.start b).defer
      else (W.start b).refuse .notReady b.counterValue
    | none =>
      if b.state ≠ .onTrack ∨ b.valid = false then (W.start b).refuse .notReady b.counterValue
      else Pos.newSeek c e b

/-- SEEK. -/
def execSeek (c : Posted) (s : State) : Host.Outcome State Fault Refusal :=
  .next (s.offerPos (.seek c) c (fun t => Pos.seek c t.posEnv t.pos))

/-- The target of a jump in flight follows the reference (R64, step 3). -/
def Motion.rebase (delta : Int) (m : Motion) : Motion :=
  if m.isSeek then m else { m with jumpTarget := m.jumpTarget.map (· + delta) }

/-- A taken SET TRACK REFERENCE (R64). -/
def Pos.takeReference (c : Posted) (b : Pos) : W Pos :=
  let new := c.w1.toNat
  let delta : Int := new - b.counter
  let w :=
    if b.valid then
      (W.put b.commandTaken { b with motion := b.motion.map (Motion.rebase delta) }).sendAll
        [.rebaseDefectMap delta, .rebaseLastGoodPlace delta]
    else b.commandTaken
  ((Pos.setCounter new true w).send .referenceTakenNotice).complete c.tag c.code .ok c.w1

/-- SET TRACK REFERENCE is offered (R64). -/
def Pos.setTrackReference (c : Posted) (b : Pos) : W Pos :=
  if b.state = .onTrack ∨ b.state = .settling ∨ b.views.refWait = true then Pos.takeReference c b
  else (W.start b).refuse .notReady b.counterValue

/-- SET_TRACK_REFERENCE. -/
def execSetTrackReference (c : Posted) (s : State) : Host.Outcome State Fault Refusal :=
  .next (s.offerPos (.setTrackReference c) c (fun t => Pos.setTrackReference c t.pos))

/-! ## RESET SERVO and group 6 -/

/-- The Position Controller takes RESET SERVO (R59, R76): no request goes to the loops or the sled. -/
def Pos.resetServo (b : Pos) : W Pos :=
  let w := Pos.interruptWork (W.start b)
  let w1 := Pos.dropRecords (w.sendIf w.blk.inRun (.seekTargetSend none))
  let w2 := w1.put { w1.blk with prevFe := none, lockRun := 0, lossRun := 0, armed := false }
  Pos.setState .idle (Pos.setCounter w2.blk.counter false w2)

/-- RESET_SERVO_POSITION. -/
def execResetServoPosition (s : State) : Host.Outcome State Fault Refusal :=
  .next (s.takePos .resetServoPosition (fun t => Pos.resetServo t.pos))

/-- POSITION_GROUP_APPLY (R58, R75). A jump, seek or retarget taken before the next set uses the new values too (log 59). -/
def execPositionGroupApply (s : State) : Host.Outcome State Fault Refusal :=
  .next (s.takePos .positionGroupApply (fun t =>
    let p := stagedPositionParams t.bus.image
    (W.start { t.pos with params := p.1 }).send (.groupAppliedReport .position p.2)))

end Sys2Proof.Machine
end

