-- ==== Sys2Proof/Machine/Recovery.lean ====
section
/-! DEFINITION. Recovery Controller (spec/08): conditions, plans, their steps, the Last Good Place; and STOP, which the
Position and Recovery Controllers take in one event. -/

namespace Sys2Proof.Machine

open Sys2Proof

/-! ## Conditions and steps (Tables 8-1 and 8-2) -/

/-- The R.MASK bit of a condition (Table 8-1). -/
def Condition.bit (k : Condition) : Nat :=
  match k with
  | .supplyLow => 0
  | .spindleFault => 1
  | .focusLost => 2
  | .holdTimeout => 3
  | .focusLimit => 4
  | .trackSlip => 5
  | .trackLimit => 6
  | .seekFailed => 7

/-- A pending set with one condition more. -/
def addCondition (p : BitVec 8) (k : Condition) : BitVec 8 := p ||| (1#8 <<< Condition.bit k)

/-- The place of a step in the order of Table 8-2. -/
def Step.order (x : Step) : Nat :=
  match x with
  | .waitQuiet => 1
  | .respin => 2
  | .refocus => 3
  | .retrack => 4
  | .return_ => 5
  | .confirm => 6

/-- The earliest entry step among the pending conditions (Table 8-1), for a set that is not empty. -/
def earliestStep (p : BitVec 8) : Step :=
  if p &&& 0x01#8 ≠ 0 then .waitQuiet
  else if p &&& 0x02#8 ≠ 0 then .respin
  else if p &&& 0x1C#8 ≠ 0 then .refocus
  else .retrack

/-! ## Reports and requests -/

/-- The recovery state is set and reported to the Position Controller (R150). -/
def Rec.setState (st : RecoveryState) (w : W Rec) : W Rec :=
  (w.put { w.blk with state := st }).send (.neighbourReport (.recovery st))

/-- A waiting report for a reference is withdrawn, where it stands (R144). -/
def Rec.withdrawWait (w : W Rec) : W Rec :=
  if w.blk.waiting then (w.put { w.blk with waiting := false }).send (.referenceWaitReport false) else w

/-- A request that can be answered takes the next number (R139). -/
def Rec.request (x : Step) (f : BitVec 8 → Instr) (w : W Rec) : W Rec :=
  (w.put { w.blk with reqNum := w.blk.reqNum + 1, reqStep := some x }).send (f (w.blk.reqNum + 1))

/-- The current step with its phase and timer. -/
def Rec.setStep (x : Step) (ph : Option StepPhase) (timer : Option Nat) (w : W Rec) : W Rec :=
  w.put { w.blk with step := some x, phase := ph, timer := timer, outcome := none, refTaken := false }

/-- No step any more. -/
def Rec.clearStep (w : W Rec) : W Rec :=
  w.put { w.blk with step := none, phase := none, timer := none, outcome := none, refTaken := false }

/-! ## Entry to each step (section 8.4) -/

/-- CONFIRM is entered (R146). -/
def Rec.enterConfirm (w : W Rec) : W Rec := Rec.setStep .confirm none (some 0) w

/-- RETURN goes on with the counter valid (R145). -/
def Rec.goReturn (w : W Rec) : W Rec :=
  if w.blk.lgp.valid then
    Rec.request .return_ (fun n => .recoverySeek n w.blk.lgp.track) (Rec.setStep .return_ (some .seek) none w)
  else Rec.enterConfirm w

/-- RETURN is entered (R144). -/
def Rec.enterReturn (w : W Rec) : W Rec :=
  if w.blk.views.valid then Rec.goReturn w
  else
    let w1 := Rec.setStep .return_ (some .refWait) (some 0) w
    (w1.put { w1.blk with waiting := true }).sendAll [.noticeRaise .referenceNeeded, .referenceWaitReport true]

/-- RETRACK is entered (R143). -/
def Rec.enterRetrack (w : W Rec) : W Rec := Rec.request .retrack .recoveryPullIn (Rec.setStep .retrack none none w)

/-- The search request of REFOCUS is sent (R142). An outcome recorded in QUIET_WAIT from an earlier search is dropped (log 53). -/
def Rec.startSearch (w : W Rec) : W Rec :=
  Rec.request .refocus .recoverySearch (Rec.setStep .refocus (some .search) none w)

/-- REFOCUS is entered (R142). -/
def Rec.enterRefocus (w : W Rec) : W Rec :=
  if !w.blk.views.shock || decide (w.blk.params.quietWait = 0) then Rec.startSearch w
  else Rec.setStep .refocus (some .quietWait) (some 0) w

/-- RESPIN is entered (R141). -/
def Rec.enterRespin (w : W Rec) : W Rec := Rec.request .respin .respinRequest (Rec.setStep .respin none (some 0) w)

/-- The supply view is OK. -/
def Rec.supplyOk (b : Rec) : Bool := decide (b.views.supply = some .ok)

/-- WAIT_QUIET is entered (R140); it may be done at the set of entry. -/
def Rec.enterWaitQuiet (w : W Rec) : W Rec :=
  let w1 := (Rec.setStep .waitQuiet none none w).send .recoveryRelease
  if w1.blk.supplyOk then Rec.enterRespin w1 else w1

/-- A step is entered. -/
def Rec.enter (x : Step) (w : W Rec) : W Rec :=
  match x with
  | .waitQuiet => Rec.enterWaitQuiet w
  | .respin => Rec.enterRespin w
  | .refocus => Rec.enterRefocus w
  | .retrack => Rec.enterRetrack w
  | .return_ => Rec.enterReturn w
  | .confirm => Rec.enterConfirm w

/-! ## Starting, restarting, failing, succeeding (R134, R137, R138, R146) -/

/-- A plan starts at a step (R134). -/
def Rec.startPlan (x : Step) (w : W Rec) : W Rec :=
  let w1 := w.put { w.blk with attempts := 0, nested := false, outcome := none, conditions := 0 }
  Rec.enter x ((Rec.setState .active w1).send .recoveryAbort)

/-- The plan fails (R138). -/
def Rec.failPlan (w : W Rec) : W Rec :=
  let w1 := Rec.clearStep (Rec.withdrawWait (w.send .recoveryRelease))
  let w2 := Rec.setState .failed w1
  (w2.put { w2.blk with lastOutcome := some .failed }).send (.noticeRaise .recoveryEnd)

/-- A restart costs an attempt unless it is at WAIT_QUIET (R137). -/
def Rec.cost (x : Step) : Nat := if x = .waitQuiet then 0 else 1

/-- The plan restarts at a step, by condition or by failure, within the budget (R137; log 26 for the nested flag). -/
def Rec.restart (x : Step) (byCondition : Bool) (w : W Rec) : W Rec :=
  if x ≠ .waitQuiet ∧ w.blk.params.budget < w.blk.attempts + 1 then Rec.failPlan w
  else
    let w1 := w.put { w.blk with attempts := w.blk.attempts + Rec.cost x, nested := w.blk.nested || byCondition }
    Rec.enter x (Rec.withdrawWait ((Rec.clearStep w1).send .recoveryAbort))

/-- The plan succeeds (R146). -/
def Rec.succeed (w : W Rec) : W Rec :=
  let w1 := Rec.setState .idle (Rec.clearStep w)
  (w1.put { w1.blk with lastOutcome := some .done }).send (.noticeRaise .recoveryEnd)

/-! ## The set (R132, R133, R135, R136) -/

/-- Step 1 of a set: the pending set is decided and emptied; the second part tells that a plan was started, restarted or
failed. -/
def Rec.decidePending (w : W Rec) : W Rec × Bool :=
  let b := w.blk
  let cleared := w.put { b with conditions := 0 }
  if b.conditions = 0 then (w, false)
  else
    match b.state with
    | .failed => (cleared, false)
    | .idle =>
      let w1 := cleared.send (.noticeRaise .condition)
      if b.views.loading = .loaded ∧ b.conditions &&& BitVec.ofNat 8 b.params.mask ≠ 0 then
        (Rec.startPlan (earliestStep b.conditions) w1, true)
      else (w1, false)
    | .active =>
      let e := earliestStep b.conditions
      if Step.order e ≤ (b.step.map Step.order).getD 0 then (Rec.restart e true cleared, true) else (cleared, false)

/-- A step that waits for its report: done, failed, or waiting (R136). -/
def Rec.onOutcome (done failed wait : W Rec → W Rec) (w : W Rec) : W Rec :=
  match w.blk.outcome with
  | some .done => done w
  | some .failed => failed w
  | none => wait w

/-- The step timer counts a set; at n milliseconds `expired` follows. -/
def Rec.countTimer (n : Nat) (expired : W Rec → W Rec) (w : W Rec) : W Rec :=
  let t := w.blk.timer.getD 0 + 1
  let w1 := w.put { w.blk with timer := some t }
  if msSets n ≤ t then expired w1 else w1

/-- Step 2 of a set in REFOCUS, phase QUIET_WAIT (R142). -/
def Rec.waitForQuiet (w : W Rec) : W Rec :=
  if w.blk.views.shock then
    Rec.countTimer w.blk.params.quietWait (fun w => (Rec.startSearch w).note .quietWaitTimeout) w
  else Rec.startSearch w

/-- Step 2 of a set in RETURN, phase REF_WAIT (R144). -/
def Rec.waitForReference (w : W Rec) : W Rec :=
  if w.blk.refTaken then Rec.goReturn w
  else
    Rec.countTimer w.blk.params.refTimeout
      (fun w => (Rec.restart .retrack false (Rec.withdrawWait w)).note .refTimeout) w

/-- Step 2 of a set: the current step is carried on (R136, section 8.4). -/
def Rec.carryOn (w : W Rec) : W Rec :=
  match w.blk.step, w.blk.phase with
  | none, _ => w
  | some .waitQuiet, _ => if w.blk.supplyOk then Rec.enterRespin w else w
  | some .respin, _ =>
    Rec.onOutcome Rec.enterRefocus (Rec.restart .respin false)
      (Rec.countTimer w.blk.params.respinTimeout (fun w => (Rec.restart .respin false w).note .respinTimeout)) w
  | some .refocus, some .quietWait => Rec.waitForQuiet w
  | some .refocus, _ => Rec.onOutcome Rec.enterRetrack (Rec.restart .refocus false) id w
  | some .retrack, _ => Rec.onOutcome Rec.enterReturn (Rec.restart .retrack false) id w
  | some .return_, some .refWait => Rec.waitForReference w
  | some .return_, _ => Rec.onOutcome Rec.enterConfirm (Rec.restart .retrack false) id w
  | some .confirm, _ =>
    if w.blk.views.position = .onTrack then
      Rec.countTimer w.blk.params.confirm (fun w => (Rec.succeed w).note .confirmTimerExpiry) w
    else Rec.restart .confirm false w

/-- The Recovery Controller takes a set (R132). -/
def Rec.takeSet (b : Rec) : W Rec :=
  let r := Rec.decidePending (W.start b)
  if !r.2 && decide (r.1.blk.state = .active) then Rec.carryOn r.1 else r.1

/-- The state after the Recovery Controller takes a set. -/
def State.recoverySet (s : State) : State := s.takeRecov .recoverySet (fun t => Rec.takeSet t.recov)

/-- RECOVERY_SET. -/
def execRecoverySet (s : State) : Host.Outcome State Fault Refusal := .next s.recoverySet

/-- RESPIN_TIMEOUT (R141). -/
def execRespinTimeout (s : State) : Host.Outcome State Fault Refusal := .next (within .respinTimeout s.recoverySet s)

/-- QUIET_WAIT_TIMEOUT (R142). -/
def execQuietWaitTimeout (s : State) : Host.Outcome State Fault Refusal :=
  .next (within .quietWaitTimeout s.recoverySet s)

/-- REF_TIMEOUT (R144). -/
def execRefTimeout (s : State) : Host.Outcome State Fault Refusal := .next (within .refTimeout s.recoverySet s)

/-- CONFIRM_TIMER_EXPIRY (R146). -/
def execConfirmTimerExpiry (s : State) : Host.Outcome State Fault Refusal :=
  .next (within .confirmTimerExpiry s.recoverySet s)

/-! ## Events taken as they arrive -/

/-- CONDITION (R131). -/
def execCondition (k : Condition) (s : State) : Host.Outcome State Fault Refusal :=
  .next (s.takeRecov (.condition k) (fun t =>
    (W.start { t.recov with conditions := addCondition t.recov.conditions k, lastCondition := some k }).send
      (.triggerEvent .condition)))

/-- A report is matching (R139). -/
def Rec.matching (b : Rec) (n : BitVec 8) : Bool :=
  decide (n = b.reqNum) && decide (b.state = .active) && b.step.isSome && decide (b.step = b.reqStep)

/-- STEP_REPORT (R139): a matching report is the step outcome; any other is discarded. -/
def execStepReport (n : BitVec 8) (o : StepOutcome) (s : State) : Host.Outcome State Fault Refusal :=
  .next (s.takeRecov (.stepReport n o) (fun t =>
    W.start (if t.recov.matching n then { t.recov with outcome := some o } else t.recov)))

/-- A revolution marker is taken (R148). -/
def Rec.marker (rev : Word) (b : Rec) : Rec :=
  let good := decide (b.views.position = .onTrack) && b.views.valid && decide (b.state = .idle)
    && decide (b.conditions = 0) && !b.holdSeen
  { b with lgp := if good then { track := b.views.counter, valid := true, stamp := rev } else b.lgp,
           holdSeen := b.views.held }

/-- REVOLUTION_MARKER_RECOVERY. -/
def execRevolutionMarkerRecovery (rev : Word) (s : State) : Host.Outcome State Fault Refusal :=
  .next (s.takeRecov (.revolutionMarkerRecovery rev) (fun t => W.start (t.recov.marker rev)))

/-- The reference-taken notice (R144): in REF_WAIT the waiting report is withdrawn, and the step goes on at the next set. -/
def Rec.referenceTaken (b : Rec) : W Rec :=
  if b.state = .active ∧ b.phase = some .refWait then Rec.withdrawWait (W.start { b with refTaken := true })
  else W.start b

/-- REFERENCE_TAKEN_NOTICE. -/
def execReferenceTakenNotice (s : State) : Host.Outcome State Fault Refusal :=
  .next (s.takeRecov .referenceTakenNotice (fun t => Rec.referenceTaken t.recov))

/-- POSITION_COMMAND_TAKEN_NOTICE (R138): FAILED is left for IDLE. -/
def execPositionCommandTakenNotice (s : State) : Host.Outcome State Fault Refusal :=
  .next (s.takeRecov .positionCommandTakenNotice (fun t =>
    match t.recov.state with
    | .failed => Rec.setState .idle (W.start t.recov)
    | _ => W.start t.recov))

/-- SHOCK_REPORT (R103). -/
def execShockReport (shock : Bool) (s : State) : Host.Outcome State Fault Refusal :=
  .next (s.takeRecov (.shockReport shock) (fun t =>
    W.start { t.recov with views := { t.recov.views with shock := shock } }))

/-- A hold-source or angle valid report (R148). -/
def Rec.takeHold (rep : HoldReport) (b : Rec) : Rec :=
  match rep with
  | .holdSource h => { b with views := { b.views with held := h }, holdSeen := b.holdSeen || h }
  | .angleValid ok => { b with views := { b.views with angleValid := ok }, holdSeen := b.holdSeen || !ok }

/-- HOLD_SOURCE_REPORT. -/
def execHoldSourceReport (rep : HoldReport) (s : State) : Host.Outcome State Fault Refusal :=
  .next (s.takeRecov (.holdSourceReport rep) (fun t => W.start (t.recov.takeHold rep)))

/-- The views after a neighbour's report (R132). No rule of spec/08 reads the spindle state: nothing keeps it (R116). -/
def RecViews.take (v : RecViews) (rep : RecoveryReport) : RecViews :=
  match rep with
  | .position st => { v with position := st }
  | .counter c ok => { v with counter := c, valid := ok }
  | .supply st => { v with supply := some st }
  | .loading st => { v with loading := st }
  | .spindle _ => v

/-- RECOVERY_VIEW_REPORT. -/
def execRecoveryViewReport (rep : RecoveryReport) (s : State) : Host.Outcome State Fault Refusal :=
  .next (s.takeRecov (.recoveryViewReport rep) (fun t => W.start { t.recov with views := t.recov.views.take rep }))

/-- A rebase notice (R149). A track that would leave 0..65535 keeps its number, with the valid flag cleared (log 52). -/
def LastGoodPlace.rebase (delta : Int) (p : LastGoodPlace) : LastGoodPlace :=
  let t : Int := p.track + delta
  if p.valid then
    if 0 ≤ t ∧ t ≤ 65535 then { p with track := t.toNat } else { p with valid := false }
  else p

/-- REBASE_LAST_GOOD_PLACE. -/
def execRebaseLastGoodPlace (delta : Int) (s : State) : Host.Outcome State Fault Refusal :=
  .next (s.takeRecov (.rebaseLastGoodPlace delta) (fun t =>
    W.start { t.recov with lgp := LastGoodPlace.rebase delta t.recov.lgp }))

/-- UNLOAD_NOTICE_RECOVERY (R149). -/
def execUnloadNoticeRecovery (s : State) : Host.Outcome State Fault Refusal :=
  .next (s.takeRecov .unloadNoticeRecovery (fun t =>
    W.start { t.recov with lgp := { t.recov.lgp with valid := false } }))

/-- A plan is abandoned, FAILED is left (R147). -/
def Rec.abandon (b : Rec) : W Rec :=
  let w := Rec.withdrawWait (W.start { b with conditions := 0, outcome := none })
  match b.state with
  | .active =>
    let w1 := Rec.setState .idle (Rec.clearStep w)
    (w1.put { w1.blk with lastOutcome := some .abandoned }).send (.noticeRaise .recoveryEnd)
  | .failed => Rec.setState .idle w
  | .idle => w

/-- ABANDONMENT_REQUEST. -/
def execAbandonmentRequest (s : State) : Host.Outcome State Fault Refusal :=
  .next (s.takeRecov .abandonmentRequest (fun t => Rec.abandon t.recov))

/-- RESET_SERVO_RECOVERY (R147, R152). -/
def execResetServoRecovery (s : State) : Host.Outcome State Fault Refusal :=
  .next (s.takeRecov .resetServoRecovery (fun t => (Rec.abandon t.recov).upd (fun b => { b with holdSeen := true })))

/-- Group 6 is applied by this block (R151); a budget below the attempts of an active plan fails it. -/
def Rec.applyGroup (img : Memory) (b : Rec) : W Rec :=
  let p := stagedRecoveryParams img
  let w := (W.start { b with params := p.1 }).send (.groupAppliedReport .recovery p.2)
  if b.state = .active ∧ p.1.budget < b.attempts then Rec.failPlan w else w

/-- RECOVERY_GROUP_APPLY. -/
def execRecoveryGroupApply (s : State) : Host.Outcome State Fault Refusal :=
  .next (s.takeRecov .recoveryGroupApply (fun t => Rec.applyGroup t.bus.image t.recov))

/-! ## STOP (R56, R147) -/

/-- STOP is handed to both of its owners in the same event (R183); the completion is the Position Controller's. -/
def State.stop (s : State) (c : Posted) : State :=
  s.taking (.stop c) (fun t =>
    let w := Pos.stop c t.pos
    ((t.putPos w).putRecov (Rec.abandon t.recov)).answered c w.ans)

/-- STOP. -/
def execStop (c : Posted) (s : State) : Host.Outcome State Fault Refusal := .next (s.stop c)

end Sys2Proof.Machine
end

