-- ==== Sys2Proof/Machine/Mirror.lean ====
section
/-! DEFINITION. The status mirror (Table 11-6, R187): the words of each block, live. Absent fields show 0 where R187 gives no
code (log 13). -/

namespace Sys2Proof.Machine

open Sys2Proof

/-- A signed quantity of 32 bits in two words, high half first (R187). -/
def words32 (v : Int) : List Word := [highHalf v, lowHalf v]

/-- A duty that is applied, 0x8000 where the channel is idle (R187). -/
def appliedWord (d : Option Int) : Word :=
  match d with
  | some v => wordOf v
  | none => 0x8000

/-- The queue word: count and code of the head (Table 11-6). With no head the high byte reads 0 (log 13). -/
def CmdQueue.word (q : CmdQueue) : Word :=
  Word.ofBytes ((q.queue.head?.map Posted.code).getD 0) (BitVec.ofNat 8 q.queue.length)

/-- 0x0800. -/
def State.mirrorHead (s : State) : List Word :=
  [0x0582, 1, s.bus.notice, natWord s.cq.writeIndex, s.cq.count, s.cq.word]

/-- The four words of a completion record (Table 11-5). -/
def CompletionRec.words (r : CompletionRec) : List Word :=
  [r.tag.setWidth 16, r.code.setWidth 16, natWord (resultCode r.result), r.value]

/-- 0x0810. -/
def CmdQueue.ringWords (q : CmdQueue) : List Word := q.ring.flatMap CompletionRec.words

/-- 0x0890; the temperature band is the Loop Processor's. -/
def State.mirrorFrontEnd (s : State) : List Word :=
  [s.fe.stamp, wordOf s.fe.feOffset, wordOf s.fe.teOffset, wordOf s.fe.shOffset, wordOf s.fe.sp, wordOf s.fe.tm,
   natWord s.loop.band, wordOfFlag s.fe.laser, wordOfFlag s.fe.laserOutput, wordOfFlag s.fe.calibration.isSome]

/-- 0x08C0 and 0x08E0. -/
def Loop.summary (l : Loop) : List Word :=
  [natWord (loopCode l.state), wordOfFlag (decide (l.gainUse = .shock)),
   natWord (flagBits [l.holds.defect, l.holds.predict, l.holds.supply]), wordOf l.last, natWord l.holdCount,
   natWord l.limitCount, natWord l.eventCount, natWord l.lastEvent, wordOfFlag l.lock]

/-- The tag of work of command origin; else 0. -/
def Work.tagWord (k : Work) : Word :=
  match k.origin with
  | .command tag _ => tag.setWidth 16
  | _ => 0

/-- The motion record while a seek is in flight. -/
def Pos.seekMotion (b : Pos) : Option Motion :=
  match b.motion with
  | some m => if m.isSeek then some m else none
  | none => none

/-- 0x0900: the fifteen words that the table lists; the sixteenth of its range reads 0 (log 12).
`refWait` is the waiting-for-reference flag of its owner, the Recovery Controller (R150, R187). -/
def Pos.mirror_ (b : Pos) (refWait : Bool) : List Word :=
  [natWord (positionCode b.state), optWord (fun k => workCode k.kind) b.work, optWord (fun k => originCode k.origin) b.work,
   (b.work.map Work.tagWord).getD 0, optWord SearchRec.sweeps b.search, natWord b.counter, wordOfFlag b.valid,
   wordOfFlag b.mirror, wordOf (b.lastDir.getD 0), optWord (fun m => phaseCode m.phase) b.motion,
   optWord Motion.seekTarget b.seekMotion, optWord Motion.corrections b.motion]
    ++ words32 ((b.seekMotion.map (fun m => m.remaining b.counter)).getD 0)
    ++ [wordOfFlag refWait]

/-- 0x0940. -/
def Spin.mirror_ (b : Spin) : List Word :=
  [natWord (spindleCode b.state), b.hall.setWidth 16, natWord b.edges, wordOfFlag b.origin, wordOfFlag b.angleValid, b.rev,
   natWord (patternCode b.pattern), wordOf b.magnitude]

/-- 0x0950. -/
def Spin.periods (b : Spin) : List Word :=
  words32 b.pMeas ++ words32 b.pTarget ++ words32 ((b.interval.getD 0 : Nat) : Int)
    ++ [wordOf b.integ, wordOf b.duty, wordOf b.err]

/-- The window's entry is this one. -/
def Window.names (v : Window) (e : Entry) : Bool := decide (e.track = v.track) && decide (e.start = v.start)

/-- 0x0980. -/
def Def.mirror_ (b : Def) : List Word :=
  [natWord (detectorCode b.det), wordOf (b.baseline / 16), wordOf b.depth, natWord b.count, natWord b.map.length,
   match b.window with
   | none => 0xFFFF
   | some v => natWord (b.map.findIdx v.names)]

/-- The five words of a map entry. -/
def Entry.words (e : Entry) : List Word := [natWord e.track, natWord e.start, natWord e.len, natWord e.hits, e.stamp]

/-- 0x0A00; positions at or beyond the entry count read 0. -/
def Def.mapWords (b : Def) : List Word := b.map.flatMap Entry.words

/-- 0x0B40. -/
def Shock.mirror_ (b : Shock) : List Word :=
  [wordOfFlag b.shock, natWord b.count, wordOf b.shc, natWord b.quietCount, wordOf b.ffFocus, wordOf b.ffTrack]

/-- 0x0B60. -/
def Rec.mirror_ (b : Rec) : List Word :=
  [natWord (recoveryCode b.state), optWord stepCode b.step, optWord stepPhaseCode b.phase, natWord b.attempts,
   wordOfFlag b.nested, b.conditions.setWidth 16, optWord (fun k => 1 + Condition.bit k) b.lastCondition,
   optWord outcomeCode b.lastOutcome, b.reqNum.setWidth 16]

/-- 0x0B78. -/
def LastGoodPlace.words (p : LastGoodPlace) : List Word := [natWord p.track, wordOfFlag p.valid, p.stamp]

/-- 0x0B80; the motion timer in ms, as its timeouts are given (log 13). -/
def Load.mirror_ (b : Load) : List Word :=
  [natWord (loadingCode b.state),
   natWord (flagBits [b.switches.entry, b.switches.centre, b.switches.clamp, b.switches.home]),
   natWord (b.motionTimer.getD 0 / 50), (b.work.map (fun k => k.tag.setWidth 16)).getD 0]

/-- Buffered and applied duty of a channel (log 12). -/
def Bridge.words (c : Bridge) : List Word := [wordOf c.buffered, appliedWord c.applied]

/-- 0x0B90. -/
def Drive.mirror_ (b : Drive) : List Word :=
  [natWord (supplyCode b.supply), wordOf b.sp, wordOfFlag b.actuatorEnable, wordOfFlag b.spindleEnable]
    ++ b.focus.words ++ b.track.words ++ b.sled.words ++ b.load.words ++ [appliedWord (b.spindle.applied.map Prod.snd)]

/-- 0x0BC0. -/
def Capture.mirror_ (b : Capture) : List Word :=
  [natWord (captureCode b.state), natWord b.oldest, natWord b.valid,
   match b.trigger with
   | none => 0xFFFF
   | some i => natWord i]

/-- The ranges of Table 11-6: base, end, and the words from the base. -/
def State.mirrorWords (s : State) (off : Nat) : Nat × List Word :=
  if off < 0x0810 then (0x0800, s.mirrorHead)
  else if off < 0x0890 then (0x0810, s.cq.ringWords)
  else if off < 0x08C0 then (0x0890, s.mirrorFrontEnd)
  else if off < 0x08E0 then (0x08C0, s.loop.focus.summary)
  else if off < 0x08F8 then (0x08E0, s.loop.track.summary)
  else if off < 0x0900 then (0x08F8, [wordOf s.loop.sled.lastDuty])
  else if off < 0x0940 then (0x0900, s.pos.mirror_ s.recov.waiting)
  else if off < 0x0950 then (0x0940, s.spin.mirror_)
  else if off < 0x0980 then (0x0950, s.spin.periods)
  else if off < 0x0A00 then (0x0980, s.defect.mirror_)
  else if off < 0x0B40 then (0x0A00, s.defect.mapWords)
  else if off < 0x0B60 then (0x0B40, s.shock.mirror_)
  else if off < 0x0B78 then (0x0B60, s.recov.mirror_)
  else if off < 0x0B80 then (0x0B78, s.recov.lgp.words)
  else if off < 0x0B90 then (0x0B80, s.load.mirror_)
  else if off < 0x0BC0 then (0x0B90, s.drive.mirror_)
  else (0x0BC0, s.cap.mirror_)

/-- The live word at an offset of the status window; a word that Table 11-6 does not assign reads 0 (R187). -/
def State.statusWord (s : State) (off : Nat) : Word :=
  (s.mirrorWords off).2.getD ((off - (s.mirrorWords off).1) / 2) 0

/-! ## Snapshot groups (R188) -/

/-- The snapshot group of an offset: its base and its number of words. -/
def snapshotGroup (off : Nat) : Option (Nat × Nat) :=
  if 0x0810 ≤ off ∧ off < 0x0890 then some (0x0810 + 8 * ((off - 0x0810) / 8), 4)
  else if 0x08C0 ≤ off ∧ off < 0x08D2 then some (0x08C0, 9)
  else if 0x08E0 ≤ off ∧ off < 0x08F2 then some (0x08E0, 9)
  else if 0x0950 ≤ off ∧ off < 0x0962 then some (0x0950, 9)
  else if 0x0A00 ≤ off ∧ off < 0x0B40 then some (0x0A00 + 10 * ((off - 0x0A00) / 10), 5)
  else if 0x0B78 ≤ off ∧ off < 0x0B7E then some (0x0B78, 3)
  else none

/-- The snapshot frozen by a read of the first word of the group at base of n words: the other words, live (R188). -/
def State.freeze (s : State) (base n : Nat) : Snapshot :=
  { base := base, words := (List.range (n - 1)).map (fun j => s.statusWord (base + 2 * (j + 1))) }

/-- A read of word j of the group at base of n words: the word returned, and the snapshot after (R188). -/
def State.groupRead (s : State) (base n j : Nat) : Word × Option Snapshot :=
  if j = 0 then (s.statusWord base, some (s.freeze base n))
  else
    match s.bus.snapshot with
    | none => (s.statusWord (base + 2 * j), none)
    | some k =>
      if k.base = base then (k.words.getD (j - 1) 0, if j + 1 = n then none else some k)
      else (s.statusWord (base + 2 * j), some k)

/-- A read of the status window: the word returned, and the snapshot after (R187, R188). -/
def State.statusRead (s : State) (off : Nat) : Word × Option Snapshot :=
  match snapshotGroup off with
  | none => (s.statusWord off, s.bus.snapshot)
  | some (base, n) => s.groupRead base n ((off - base) / 2)

end Sys2Proof.Machine
end

