-- ==== Sys2Proof/Machine/Queue.lean ====
section
/-! DEFINITION. Command Queue (spec/11, R182 to R186): posts, the commands the queue answers itself, APPLY PARAMETERS, and
RESET SERVO. -/

namespace Sys2Proof.Machine

open Sys2Proof

/-! ## Completions (R184) -/

/-- COMPLETION. -/
def execCompletion (r : CompletionRec) (s : State) : Host.Outcome State Fault Refusal :=
  .next (s.taking (.completion r) (fun t => t.recordCompletion r))

/-! ## Commands the Command Queue answers itself (R183) -/

/-- NOP. -/
def execNop (c : Posted) (s : State) : Host.Outcome State Fault Refusal :=
  .next (s.taking (.nop c) (fun t => t.answered c (.refused .ok 0)))

/-- UNKNOWN_COMMAND. -/
def execUnknownCommand (c : Posted) (s : State) : Host.Outcome State Fault Refusal :=
  .next (s.taking (.unknownCommand c) (fun t => t.answered c (.refused .unknownCommand 0)))

/-- A deferred head is offered again (R183). -/
def State.offerDeferred (s : State) : State :=
  if s.cq.deferred then
    { s with cq := { s.cq with deferred := false }, transit := s.transit ++ offerHead s.cq.queue }
  else s

/-- DEFERRED_HEAD_OFFER: the Command Queue takes a set (R183). -/
def execDeferredHeadOffer (s : State) : Host.Outcome State Fault Refusal :=
  .next (s.taking .deferredHeadOffer State.offerDeferred)

/-! ## APPLY PARAMETERS (R185) -/

/-- The parts of a group, one for each owner (R185). -/
def groupParts (g : Fin 10) : List GroupPart :=
  match g with
  | 0 => [.focus]
  | 1 => [.track]
  | 2 => [.sled]
  | 3 => [.spindle]
  | 4 => [.defect]
  | 5 => [.shock]
  | 6 => [.position, .recovery]
  | 7 => [.supply]
  | 8 => [.loading, .notice, .capture]
  | 9 => [.temperature]

/-- The row by which a part is handed to its owner. -/
def partRow : GroupPart → Instr
  | .focus => .loopGroupApply .focus
  | .track => .loopGroupApply .track
  | .sled => .loopGroupApply .sled
  | .spindle => .spindleGroupApply
  | .defect => .defectGroupApply
  | .shock => .shockGroupApply
  | .position => .positionGroupApply
  | .recovery => .recoveryGroupApply
  | .supply => .supplyGroupApply
  | .loading => .loadingGroupApply
  | .notice => .noticeGroupApply
  | .capture => .captureGroupApply
  | .temperature => .temperatureGroupApply

/-- The ten groups, in order. -/
def allGroups : List (Fin 10) := [0, 1, 2, 3, 4, 5, 6, 7, 8, 9]

/-- The groups of a mask, in group order (R185). -/
def maskGroups (mask : Word) : List (Fin 10) := allGroups.filter (fun g => mask.getLsbD g.val)

/-- A taken APPLY PARAMETERS hands each group of the mask to its owners, awaits a report from each, and stays at the head
(R185). -/
def State.takeApply (s : State) (mask : Word) : State :=
  let parts := (maskGroups mask).flatMap groupParts
  { s with cq := { s.cq with applying := some { awaited := parts, sum := 0 } }, transit := s.transit ++ parts.map partRow }

/-- APPLY PARAMETERS is offered (R185). Only the head of the queue can be kept at the head, and one already taken is not
offered again (log 22). -/
def State.offerApply (s : State) (c : Posted) : State :=
  if s.cq.queue.head? = some c ∧ s.cq.applying.isSome = true then s
  else if 1024 ≤ c.w1.toNat then s.answered c (.refused .badArgument 0)
  else if c.w1 = 0 then s.answered c (.refused .ok 0)
  else if s.cq.queue.head? = some c then s.takeApply c.w1
  else s

/-- APPLY_PARAMETERS. -/
def execApplyParameters (c : Posted) (s : State) : Host.Outcome State Fault Refusal :=
  .next (s.taking (.applyParameters c) (fun t => t.offerApply c))

/-- The command at the head completes with the sum of the counts, and the next is offered (R185). -/
def State.finishApply (s : State) (sum : Nat) : State :=
  match s.cq.queue.head? with
  | some c => (s.completeNow c (if sum = 0 then .ok else .okClamped) (natWord sum)).retireHead
  | none => { s with cq := { s.cq with applying := none } }

/-- A group's report to the APPLY PARAMETERS at the head (R185): it counts while it is awaited. -/
def State.reportCounted (s : State) (g : GroupPart) (n : Nat) : State :=
  match s.cq.applying with
  | none => s
  | some a =>
    if g ∈ a.awaited then
      if (a.awaited.erase g).isEmpty then s.finishApply (a.sum + n)
      else { s with cq := { s.cq with applying := some { awaited := a.awaited.erase g, sum := a.sum + n } } }
    else s

/-- A group's report (R185). The first reports of a part whose APPLY PARAMETERS was flushed are to that one, and count for no
command (R186; log 23). -/
def State.groupReported (s : State) (g : GroupPart) (n : Nat) : State :=
  if g ∈ s.cq.stale then { s with cq := { s.cq with stale := s.cq.stale.erase g } } else s.reportCounted g n

/-- GROUP_APPLIED_REPORT. -/
def execGroupAppliedReport (g : GroupPart) (n : Nat) (s : State) : Host.Outcome State Fault Refusal :=
  .next (s.taking (.groupAppliedReport g n) (fun t => t.groupReported g n))

/-! ## RESET SERVO (R186) -/

/-- RESET SERVO as handed to each servo block (R186, item 2). -/
def resetServoRows : List Instr :=
  [.resetServoFrontEnd, .resetServoLoop, .resetServoPosition, .resetServoSpindle, .resetServoDefect, .resetServoShock,
   .resetServoRecovery, .resetServoLoading, .resetServoOutputs, .resetServoCapture]

/-- The commands still in the queue when RESET SERVO c is carried out: those behind it, or, from the urgent slot, all. -/
def CmdQueue.behind (q : CmdQueue) (c : Posted) : List Posted :=
  if q.queue.head? = some c then q.queue.tail else q.queue

/-- Commands complete FLUSHED in post order (R186, item 1). -/
def State.flushAll (s : State) (cs : List Posted) : State := cs.foldl (fun t c => t.completeNow c .flushed 0) s

/-- The offer of the flushed head is no longer in transit (log 23). -/
def CmdQueue.withdrawn (q : CmdQueue) (transit : List Instr) : List Instr :=
  (offerHead q.queue).foldl (fun l i => l.erase i) transit

/-- The reports that groups handed by flushed APPLY PARAMETERS still bring: those of the one at the head, after those of earlier
ones (R186; log 23). -/
def CmdQueue.staleAfter (q : CmdQueue) : List GroupPart :=
  q.stale ++ (match q.applying with
    | none => []
    | some a => a.awaited)

/-- RESET SERVO is carried out (R186). -/
def State.resetServo (s : State) (c : Posted) : State :=
  let s1 := { s with transit := s.cq.withdrawn s.transit }
  let s2 := s1.flushAll (s.cq.behind c)
  let s3 := { s2 with cq := { s2.cq with queue := [], deferred := false, applying := none, stale := s.cq.staleAfter },
                      transit := s2.transit ++ resetServoRows }
  s3.completeNow c .ok 0

/-- RESET_SERVO. -/
def execResetServo (c : Posted) (s : State) : Host.Outcome State Fault Refusal :=
  .next (s.taking (.resetServo c) (fun t => t.resetServo c))

/-! ## Posts (R181, R182) -/

/-- A posted command of slots 0 to 14 joins the queue, or is answered QUEUE_FULL (R181); posted to an empty queue it is offered
at once (R183). -/
def State.post (s : State) (c : Posted) : State :=
  if 8 ≤ s.cq.queue.length then s.completeNow c .queueFull 0
  else
    { s with cq := { s.cq with queue := s.cq.queue ++ [c] },
             transit := s.transit ++ (if s.cq.queue.isEmpty then [rowOfPosted c] else []) }

/-- A post of slot 15 is handled at once (R182). -/
def State.urgentPost (s : State) (c : Posted) : State :=
  match c.code.toNat with
  | 0x28 => s.stop c
  | 0x26 => s.offerPos (.setTrackReference c) c (fun t => Pos.setTrackReference c t.pos)
  | 0x70 => s.resetServo c
  | _ => s.completeNow c .wrongSlot 0

end Sys2Proof.Machine
end

