-- ==== Sys2Proof/Machine/Bus.lean ====
section
/-! DEFINITION. Bus Window Unit (spec/11, R180, R181, R187 to R189): bus cycles, images, notices. -/

namespace Sys2Proof.Machine

open Sys2Proof

/-! ## The servo area (R180) -/

/-- The address at which the servo area begins (R180). -/
def Bus.areaBase (b : Bus) : Nat := b.area.toNat * 0x10000 + 0xE000

/-- The even offset of an address in the servo area; none outside it (R180). -/
def Bus.offset (b : Bus) (addr : Nat) : Option Nat :=
  if b.areaBase ≤ addr ∧ addr < b.areaBase + 0x2000 then some ((addr - b.areaBase) / 2 * 2) else none

/-- A cycle goes on to the SRAM unchanged (R180). -/
def State.passCycle (s : State) (k : BusCycle) : State := { s with bus := { s.bus with passed := some k } }

/-! ## Write cycles (R180, R181) -/

/-- The image after a write cycle (R181). -/
def State.capture (s : State) (off : Nat) (w : Word) (lanes : Lanes) : State :=
  { s with bus := { s.bus with image := s.bus.image.writeLanes off w lanes } }

/-- The slot that a write cycle at offset off posts (R181): word 7, both lanes. -/
def postedSlot (off : Nat) (lanes : Lanes) : Option Nat :=
  if off < 0x0100 ∧ off % 16 = 14 ∧ lanes.lo = true ∧ lanes.hi = true then some (off / 16) else none

/-- The slot is posted (R181, R182). -/
def State.postSlot (s : State) (k : Nat) : State :=
  if k = 15 then s.urgentPost (s.bus.posted 15) else s.post (s.bus.posted k)

/-- A write cycle at an offset of the servo area: the command and staging windows are captured (Table 11-1). -/
def State.windowWrite (s : State) (off : Nat) (w : Word) (lanes : Lanes) : State :=
  if off < 0x0800 then
    match postedSlot off lanes with
    | some k => (s.capture off w lanes).postSlot k
    | none => s.capture off w lanes
  else s

/-- A write cycle: it goes on to the SRAM, and inside the servo area the part acts on it, unless RESET is asserted (R180). -/
def State.writeCycle (s : State) (addr : Nat) (w : Word) (lanes : Lanes) : State :=
  let s1 := s.passCycle { addr := addr, write := some w, lanes := lanes }
  if s.held then s1
  else
    match s.bus.offset addr with
    | some off => State.windowWrite { s1 with subs := [] } off w lanes
    | none => s1

/-- Both lanes strobed. -/
def bothLanes : Lanes := { lo := true, hi := true }

/-- The address of word 7 of a slot. -/
def Bus.word7 (b : Bus) (k : Nat) : Nat := b.areaBase + 16 * k + 14

/-- COMMAND_POST (R181). -/
def execCommandPost (slot : Fin 15) (w7 : Word) (s : State) : Host.Outcome State Fault Refusal :=
  .next (s.writeCycle (s.bus.word7 slot.val) w7 bothLanes)

/-- URGENT_POST (R182). -/
def execUrgentPost (w7 : Word) (s : State) : Host.Outcome State Fault Refusal :=
  .next (s.writeCycle (s.bus.word7 15) w7 bothLanes)

/-- WINDOW_WRITE (R180, R181): any write cycle on the bus. -/
def execWindowWrite (addr : Nat) (data : Word) (lanes : Lanes) (s : State) : Host.Outcome State Fault Refusal :=
  .next (s.writeCycle addr data lanes)

/-! ## Read cycles (R180, R187, R188, R194) -/

/-- The part answers a read. -/
def State.answerRead (s : State) (w : Word) (lanes : Lanes) : State :=
  { s with bus := { s.bus with answer := some (w, lanes) } }

/-- A read of the notice word: all 16 bits are cleared (R189). -/
def State.noticeRead (s : State) (lanes : Lanes) : State :=
  let s1 := s.answerRead s.bus.notice lanes
  { s1 with bus := { s1.bus with notice := 0 } }

/-- A read of the status or capture window at an offset (R180). -/
def State.windowRead (s : State) (off : Nat) (lanes : Lanes) : State :=
  if 0x1000 ≤ off then s.answerRead (s.cap.buffer.word off) lanes
  else if off = 0x0804 then s.noticeRead lanes
  else
    let r := s.statusRead off
    let s1 := s.answerRead r.1 lanes
    { s1 with bus := { s1.bus with snapshot := r.2 } }

/-- A read cycle: the status and capture windows are answered by the part; every other read, and every read while RESET is
asserted, goes on to the SRAM (R180). -/
def State.readCycle (s : State) (addr : Nat) (lanes : Lanes) : State :=
  let passed := s.passCycle { addr := addr, write := none, lanes := lanes }
  if s.held then passed
  else
    match s.bus.offset addr with
    | some off => if 0x0800 ≤ off then State.windowRead { s with subs := [] } off lanes else passed
    | none => passed

/-- SNAPSHOT_READ (R180, R187, R188, R194): any read cycle on the bus. -/
def execSnapshotRead (addr : Nat) (lanes : Lanes) (s : State) : Host.Outcome State Fault Refusal :=
  .next (s.readCycle addr lanes)

/-- NOTICE_WORD_READ (R189). -/
def execNoticeWordRead (lanes : Lanes) (s : State) : Host.Outcome State Fault Refusal :=
  .next (s.readCycle (s.bus.areaBase + 0x0804) lanes)

/-! ## Notices (R189, Table 11-8) -/

/-- The bit of a notice kind (Table 11-8). -/
def noticeBit (k : NoticeKind) : Nat :=
  match k with
  | .cmdDone => 0
  | .condition => 1
  | .recoveryEnd => 2
  | .referenceNeeded => 3
  | .loading => 4
  | .supply => 5
  | .captureDone => 6
  | .discAlert => 7

/-- The notice word after a raise of bit n (R189). -/
def raised (w : Word) (n : Nat) : Word :=
  if w.getLsbD n then w ||| (1#16 <<< (n + 8)) else w ||| (1#16 <<< n)

/-- NOTICE_RAISE. -/
def execNoticeRaise (k : NoticeKind) (s : State) : Host.Outcome State Fault Refusal :=
  .next (s.taking (.noticeRaise k) (fun t => { t with bus := { t.bus with notice := raised t.bus.notice (noticeBit k) } }))

/-- The NOTICE line (R189). -/
def Bus.noticeLine (b : Bus) : Bool := decide (b.notice.lo &&& b.enable ≠ 0)

/-- NOTICE_GROUP_APPLY (R185, R189). -/
def execNoticeGroupApply (s : State) : Host.Outcome State Fault Refusal :=
  .next (s.taking .noticeGroupApply (fun t =>
    let p := stagedNoticeEnable t.bus.image
    { t with bus := { t.bus with enable := BitVec.ofNat 8 p.1 }, transit := t.transit ++ [.groupAppliedReport .notice p.2] }))

end Sys2Proof.Machine
end

