-- ==== Sys2Proof/Machine/Defect.lean ====
section
/-! DEFINITION. Defect Monitor (spec/05): the detector, the Defect Map, the predictive window. -/

namespace Sys2Proof.Machine

open Sys2Proof

/-! ## Spans and gaps (R83) -/

/-- Angle units of one revolution. -/
def turn : Nat := 6144

/-- Going up from angle a to angle b. -/
def arc (a b : Nat) : Nat := (b + (turn - a % turn)) % turn

/-- A span of angle: its first unit and its number of units. -/
structure Span where
  start : Nat
  len : Nat
deriving DecidableEq, Repr

/-- Angle a is a unit of the span. -/
def Span.has (x : Span) (a : Nat) : Bool := decide (arc x.start a < x.len)

/-- Two spans share a unit (R83). -/
def Span.meets (x y : Span) : Bool := x.has y.start || y.has x.start

/-- The gap from span x to span y (R83). -/
def Span.gapTo (x y : Span) : Nat := arc (x.start + x.len) y.start

/-- Two spans are near (R83). -/
def Span.near (gap : Nat) (x y : Span) : Bool := x.meets y || decide (min (x.gapTo y) (y.gapTo x) ≤ gap)

/-- The units free just before span x, given all the spans (R86): none where a span covers the unit before it. -/
def gapBefore (xs : List Span) (x : Span) : Nat :=
  if xs.any (fun y => y.has (x.start + turn - 1)) then 0
  else (xs.map (fun y => y.gapTo x)).foldl min turn

/-- The better of two candidates (start, gap before it): the larger gap, then the lower start (R86). -/
def betterGap (p q : Nat × Nat) : Nat × Nat :=
  if p.2 < q.2 then q else if q.2 < p.2 then p else if q.1 < p.1 then q else p

/-- The union of spans taken together (R86): the revolution less the largest gap. -/
def union (xs : List Span) : Span :=
  match xs.map (fun x => (x.start, gapBefore xs x)) with
  | [] => { start := 0, len := 0 }
  | p :: ps => let g := ps.foldl betterGap p; { start := g.1, len := turn - g.2 }

/-! ## The map (R83 to R87) -/

/-- The span of an entry. -/
def Entry.span (e : Entry) : Span := { start := e.start, len := e.len }

/-- An entry comes before a place (track, start) in the order of the map. -/
def Entry.before (e : Entry) (track start : Nat) : Bool :=
  decide (e.track < track) || (decide (e.track = track) && decide (e.start < start))

/-- An entry put at its position (R83). -/
def insertEntry (e : Entry) : List Entry → List Entry
  | [] => [e]
  | x :: xs => if x.before e.track e.start then x :: insertEntry e xs else e :: x :: xs

/-- The age of an entry (R83). -/
def Entry.age (rev : Word) (e : Entry) : Nat := (rev - e.stamp).toNat

/-- Entry q gives way before entry p, which stands before it in the map (R87). -/
def Entry.weaker (rev : Word) (p q : Entry) : Bool :=
  decide (q.hits < p.hits) || (decide (q.hits = p.hits) && decide (p.age rev < q.age rev))

/-- The entry to evict (R87). -/
def evictee (rev : Word) : List Entry → Option Entry
  | [] => none
  | x :: xs => some (xs.foldl (fun p q => if p.weaker rev q then q else p) x)

/-- What a learn does to the map: the new map, the entries it took in, and the entry it evicted. -/
structure Learned where
  map : List Entry
  place : Entry
  taken : List Entry
  evicted : Option Entry
deriving DecidableEq, Repr

/-- Taking in, in repeated steps, every entry near the growing span (R86). `rest` are the other entries of the track; the
count bounds the steps by their number. -/
def takeIn (gap : Nat) : Nat → Span → List Entry → List Entry → Span × List Entry
  | 0, x, _, taken => (x, taken)
  | n + 1, x, rest, taken =>
    match rest.filter (fun e => x.near gap e.span) with
    | [] => (x, taken)
    | near =>
      takeIn gap n (union (x :: near.map Entry.span)) (rest.filter (fun e => !x.near gap e.span)) (taken ++ near)

/-- A learned span merged or inserted (R85 to R87). -/
def learn (p : DefectParams) (rev : Word) (track : Nat) (x : Span) (map : List Entry) : Learned :=
  let same := map.filter (fun e => decide (e.track = track))
  let r := takeIn p.mergeGap (same.length + 1) x same []
  match r.2 with
  | [] =>
    let e : Entry := { track := track, start := x.start, len := x.len, hits := 1, stamp := rev }
    let out := if map.length < 32 then none else evictee rev map
    let kept := match out with | none => map | some o => map.filter (fun y => decide (y ≠ o))
    { map := insertEntry e kept, place := e, taken := [], evicted := out }
  | taken =>
    let e : Entry :=
      { track := track, start := r.1.start, len := min 1024 r.1.len,
        hits := min 15 ((taken.map Entry.hits).foldl max 0 + 1), stamp := rev }
    { map := insertEntry e (map.filter (fun y => !taken.contains y)), place := e, taken := taken, evicted := none }

/-! ## Requests -/

/-- DEFECT is requested or withdrawn on both loops (R80, R81). -/
def askDefect (on : Bool) : Instr := .holdSourceRequest .both .defect on

/-- PREDICT is requested or withdrawn on both loops (R89, R90). -/
def askPredict (on : Bool) : Instr := .holdSourceRequest .both .predict on

/-- An open window closes between sets, without fading (R89). -/
def Def.dropWindow (w : W Def) : W Def :=
  match w.blk.window with
  | none => w
  | some _ => (w.put { w.blk with window := none }).send (askPredict false)

/-- The entry an open window is attached to. -/
def Window.entry (v : Window) (map : List Entry) : Option Entry :=
  map.find? (fun e => decide (e.track = v.track) && decide (e.start = v.start))

/-! ## Baseline and detector (R78 to R82, R84) -/

/-- The first set after activation initialises the baseline (R78). -/
def Def.initBaseline (rs : Int) (b : Def) : Def :=
  { b with baseline := 16 * rs, openRun := 0, closeRun := 0, depth := 0, freeze := none, pendingInit := false }

/-- The baseline moved toward the reflected sum (R79). -/
def movedBaseline (p : DefectParams) (base rs : Int) : Int :=
  clamp 0 65520 (base + ((16 * rs - base) * p.alpha + 32) / 64)

/-- The freeze count of a set: counted, and absent once it reaches D.BETA (R79). -/
def Def.countFreeze (w : W Def) : W Def :=
  match w.blk.freeze with
  | none => w
  | some n =>
    if w.blk.params.beta ≤ n + 1 then (w.put { w.blk with freeze := none }).note .freezeEnd
    else w.put { w.blk with freeze := some (n + 1) }

/-- The open record at the opening set (R84). -/
def Def.newRecord (b : Def) (angle : Nat) : OpenRec :=
  { track := b.views.counter, trackKnown := b.views.valid, start := angle, startKnown := b.views.angleValid, markers := 0,
    usable := b.views.valid && b.views.angleValid && decide (b.views.position = .onTrack) }

/-- The defect opens (R80). -/
def Def.openDefect (angle : Nat) (w : W Def) : W Def :=
  let b := w.blk
  ((w.put { b with det := .opened, openRun := 0, closeRun := 0, openRec := some (b.newRecord angle),
                   count := satIncr b.count, window := b.window.map (fun v => { v with seen := true }) }).sendAll
    [askDefect true, .triggerEvent .defectOpen]).note .defectOpen

/-- The defect closes (R81); learning follows as step 2 of the set. -/
def Def.closeDefect (w : W Def) : W Def :=
  ((w.put { w.blk with det := .clear, openRun := 0, closeRun := 0,
                       freeze := if w.blk.params.beta = 0 then none else some 0 }).send (askDefect false)).note
    .defectClose

/-- The decision of a set (R80, R81); the second part tells that the set closed a defect. -/
def Def.decideSet (angle : Nat) (w : W Def) : W Def × Bool :=
  let b := w.blk
  match b.det with
  | .inactive => (w, false)
  | .clear =>
    if (b.params.depth : Int) ≤ b.depth then
      if b.params.filter ≤ b.openRun + 1 then (Def.openDefect angle w, false)
      else (w.put { b with openRun := b.openRun + 1 }, false)
    else (w.put { b with openRun := 0 }, false)
  | .opened =>
    if b.depth < (b.params.depth : Int) - b.params.hyst then
      if b.params.filter ≤ b.closeRun + 1 then (Def.closeDefect w, true)
      else (w.put { b with closeRun := b.closeRun + 1 }, false)
    else (w.put { b with closeRun := 0 }, false)

/-- Step 1 of a set (R77, R79); the second part tells that the set closed a defect. -/
def Def.detectorStep (rs : Int) (angle : Nat) (w : W Def) : W Def × Bool :=
  match w.blk.det with
  | .inactive => (w, false)
  | _ =>
    if w.blk.pendingInit then (w.put (w.blk.initBaseline rs), false)
    else
      let w1 := Def.countFreeze (w.put { w.blk with depth := w.blk.baseline / 16 - rs })
      let r := Def.decideSet angle w1
      let b := r.1.blk
      if b.det = .clear ∧ b.freeze = none ∧ r.2 = false then
        (r.1.put { b with baseline := movedBaseline b.params b.baseline rs }, false)
      else r

/-! ## Learning (R85) -/

/-- The learned length (R85). -/
def learnedLen (r : OpenRec) (last : Nat) : Nat :=
  if r.markers = 2 ∨ (r.markers = 1 ∧ r.start ≤ last) then 1024 else min 1024 (arc r.start last + 1)

/-- All that a learn asks for (R85). -/
def Def.learns (b : Def) (r : OpenRec) : Bool :=
  r.usable && decide (b.views.position = .onTrack) && b.views.valid && b.views.angleValid && decide (b.params.learn = 1)

/-- The window after a learn (R86, R87): it passes to the merged entry, with the defect seen, or closes with the eviction of
its entry. -/
def Def.windowAfterLearn (l : Learned) (w : W Def) : W Def :=
  match w.blk.window with
  | none => w
  | some v =>
    let isAt (e : Entry) : Bool := decide (e.track = v.track) && decide (e.start = v.start)
    if l.taken.any isAt then
      w.put { w.blk with window := some { track := l.place.track, start := l.place.start, seen := true } }
    else if (l.evicted.map isAt).getD false then Def.dropWindow w
    else w

/-- Step 2 of a closing set: learning is tried, and the open record is discarded (R81, R85). -/
def Def.learnStep (angle : Nat) (w : W Def) : W Def :=
  match w.blk.openRec with
  | none => w
  | some r =>
    if w.blk.learns r then
      let l := learn w.blk.params w.blk.views.rev r.track.toNat { start := r.start, len := learnedLen r angle } w.blk.map
      Def.windowAfterLearn l (w.put { w.blk with openRec := none, map := l.map })
    else w.put { w.blk with openRec := none }

/-! ## The predictive window (R88 to R90) -/

/-- The predictive hold is enabled (R88). -/
def Def.enabled (b : Def) : Bool :=
  decide (b.params.prehold = 1) && decide (b.views.position = .onTrack) && b.views.valid && b.views.angleValid

/-- The angle lies within the guarded span of an entry's angles (R88). -/
def Entry.guards (g : Nat) (e : Entry) (angle : Nat) : Bool :=
  decide (turn ≤ e.len + 2 * g) || decide (arc (e.start + turn - g) angle < e.len + 2 * g)

/-- The same, with the entry's track the current track. -/
def Def.guarded (b : Def) (angle : Nat) (e : Entry) : Bool :=
  decide (e.track = b.views.counter) && e.guards b.params.guardUnits angle

/-- A window is sought (R89). -/
def Def.seekWindow (angle : Nat) (w : W Def) : W Def :=
  let b := w.blk
  if b.enabled then
    match b.map.find? (b.guarded angle) with
    | none => w
    | some e =>
      (w.put { b with window := some { track := e.track, start := e.start, seen := decide (b.det = .opened) } }).send
        (askPredict true)
  else w

/-- An entry loses one hit, and goes at 0 (R90). -/
def fade (e : Entry) (map : List Entry) : List Entry :=
  if e.hits ≤ 1 then map.filter (fun y => decide (y ≠ e))
  else map.map (fun y => if y = e then { y with hits := y.hits - 1 } else y)

/-- The window closes at a set, with or without fading (R90). -/
def Def.closeWindow (angle : Nat) (v : Window) (w : W Def) : W Def :=
  let b := w.blk
  let map :=
    match v.entry b.map with
    | none => b.map
    | some e =>
      if b.enabled && decide (e.track = b.views.counter) && !e.guards b.params.guardUnits angle && !v.seen then
        fade e b.map
      else b.map
  (w.put { b with window := none, map := map }).send (askPredict false)

/-- Step 3 of a set (R89). -/
def Def.windowStep (angle : Nat) (w : W Def) : W Def :=
  match w.blk.window with
  | none => Def.seekWindow angle w
  | some v =>
    if w.blk.enabled && ((v.entry w.blk.map).map (w.blk.guarded angle)).getD false then
      w.put { w.blk with window := some { v with seen := v.seen || decide (w.blk.det = .opened) } }
    else Def.seekWindow angle (Def.closeWindow angle v w)

/-! ## The set (R77) -/

/-- The Defect Monitor takes a set, with the angle estimate as it stands (R77). -/
def Def.takeSet (rs : Int) (angle : Nat) (b : Def) : W Def :=
  let r := Def.detectorStep rs angle (W.start b)
  Def.windowStep angle (if r.2 then Def.learnStep angle r.1 else r.1)

/-- The state after the Defect Monitor takes a set. -/
def State.defectSet (s : State) (x : SampleSet) : State :=
  s.takeDefect (.defectSet x) (fun t => Def.takeSet x.rs (t.spin.angle t.clock) t.defect)

/-- DEFECT_SET. -/
def execDefectSet (x : SampleSet) (s : State) : Host.Outcome State Fault Refusal := .next (s.defectSet x)

/-- DEFECT_OPEN (R80). -/
def execDefectOpen (x : SampleSet) (s : State) : Host.Outcome State Fault Refusal :=
  .next (within .defectOpen (s.defectSet x) s)

/-- DEFECT_CLOSE (R81). -/
def execDefectClose (x : SampleSet) (s : State) : Host.Outcome State Fault Refusal :=
  .next (within .defectClose (s.defectSet x) s)

/-- FREEZE_END (R79). -/
def execFreezeEnd (x : SampleSet) (s : State) : Host.Outcome State Fault Refusal :=
  .next (within .freezeEnd (s.defectSet x) s)

/-! ## Reports taken (R77, R78, R82, R84) -/

/-- A focus-in report (R78). -/
def Def.focusIn (b : Def) : W Def :=
  match b.det with
  | .inactive => W.start { b with det := .clear, pendingInit := true }
  | _ => W.start b

/-- FOCUS_IN_REPORT. -/
def execFocusInReport (s : State) : Host.Outcome State Fault Refusal :=
  .next (s.takeDefect .focusInReport (fun t => Def.focusIn t.defect))

/-- The detector becomes INACTIVE; an open defect ends without a close (R82). -/
def Def.deactivate (w : W Def) : W Def :=
  match w.blk.det with
  | .opened =>
    (w.put { w.blk with det := .inactive, openRec := none, openRun := 0, closeRun := 0, freeze := none }).send
      (askDefect false)
  | _ => w.put { w.blk with det := .inactive }

/-- FOCUS_OUT_REPORT (R78, R82). -/
def execFocusOutReport (s : State) : Host.Outcome State Fault Refusal :=
  .next (s.takeDefect .focusOutReport (fun t => Def.deactivate (W.start t.defect)))

/-- The usable flag of an open record is cleared (R84, R92). -/
def Def.spoil (b : Def) : Def := { b with openRec := b.openRec.map (fun r => { r with usable := false }) }

/-- A neighbour's report (R77, R84). No rule of spec/05 reads the loading state: nothing keeps it (R161, log 44). -/
def Def.takeReport (rep : DefectReport) (b : Def) : Def :=
  match rep with
  | .position st =>
    let b1 := { b with views := { b.views with position := st } }
    if st = .onTrack then b1 else b1.spoil
  | .counter v ok =>
    let b1 := { b with views := { b.views with counter := v, valid := ok } }
    if ok then b1 else b1.spoil
  | .angleValid ok =>
    let b1 := { b with views := { b.views with angleValid := ok } }
    if ok then b1 else b1.spoil
  | .loading _ => b

/-- DEFECT_NEIGHBOUR_REPORT. -/
def execDefectNeighbourReport (rep : DefectReport) (s : State) : Host.Outcome State Fault Refusal :=
  .next (s.takeDefect (.defectNeighbourReport rep) (fun t => W.start (t.defect.takeReport rep)))

/-- REVOLUTION_MARKER_DEFECT (R84): the revolution count that comes with it, and one more marker of an open defect. -/
def execRevolutionMarkerDefect (rev : Word) (s : State) : Host.Outcome State Fault Refusal :=
  .next (s.takeDefect (.revolutionMarkerDefect rev) (fun t =>
    W.start { t.defect with views := { t.defect.views with rev := rev },
                            openRec := t.defect.openRec.map (fun r => { r with markers := min 2 (r.markers + 1) }) }))

/-- A track number in 0..65535. -/
def isTrack (v : Int) : Bool := decide (0 ≤ v) && decide (v ≤ 65535)

/-- The rebase notice (R93, R84). -/
def Def.rebase (delta : Int) (b : Def) : W Def :=
  let keep (e : Entry) : Bool := isTrack (e.track + delta)
  let map := (b.map.filter keep).map (fun e => { e with track := ((e.track : Int) + delta).toNat })
  let rec' := b.openRec.map (fun r => { r with track := r.track + delta, usable := r.usable && isTrack (r.track + delta) })
  let b1 := { b with map := map, openRec := rec' }
  match b.window with
  | none => W.start b1
  | some v =>
    if isTrack (v.track + delta) then
      W.start { b1 with window := some { v with track := ((v.track : Int) + delta).toNat } }
    else Def.dropWindow (W.start b1)

/-- REBASE_DEFECT_MAP. -/
def execRebaseDefectMap (delta : Int) (s : State) : Host.Outcome State Fault Refusal :=
  .next (s.takeDefect (.rebaseDefectMap delta) (fun t => Def.rebase delta t.defect))

/-- The map is emptied; an open window closes without fading (R91, R92). -/
def Def.clearMap (b : Def) : W Def :=
  let w := Def.dropWindow (W.start b)
  w.put { w.blk with map := [] }

/-- HALL_FAULT_NOTICE (R92). -/
def execHallFaultNotice (s : State) : Host.Outcome State Fault Refusal :=
  .next (s.takeDefect .hallFaultNotice (fun t => t.defect.clearMap.upd Def.spoil))

/-- UNLOAD_NOTICE_DEFECT (R92). -/
def execUnloadNoticeDefect (s : State) : Host.Outcome State Fault Refusal :=
  .next (s.takeDefect .unloadNoticeDefect (fun t => t.defect.clearMap.upd Def.spoil))

/-- CLEAR_MAP (R91): taken in every state. -/
def execClearMap (c : Posted) (s : State) : Host.Outcome State Fault Refusal :=
  .next (s.offerDefect (.clearMap c) c (fun t =>
    t.defect.clearMap.complete c.tag c.code .ok (BitVec.ofNat 16 t.defect.map.length)))

/-- The Defect Monitor takes RESET SERVO (R96). -/
def Def.resetServo (b : Def) : W Def :=
  let w := Def.dropWindow (Def.deactivate (W.start b))
  w.put { w.blk with pendingInit := false, openRun := 0, closeRun := 0, freeze := none }

/-- RESET_SERVO_DEFECT. -/
def execResetServoDefect (s : State) : Host.Outcome State Fault Refusal :=
  .next (s.takeDefect .resetServoDefect (fun t => Def.resetServo t.defect))

/-- DEFECT_GROUP_APPLY (R95). -/
def execDefectGroupApply (s : State) : Host.Outcome State Fault Refusal :=
  .next (s.takeDefect .defectGroupApply (fun t =>
    let p := stagedDefectParams t.bus.image
    (W.start { t.defect with params := p.1 }).send (.groupAppliedReport .defect p.2)))

end Sys2Proof.Machine
end

