-- ==== Sys2Proof/Machine/LoopProc.lean ====
section
/-! DEFINITION. Loop Processor (spec/02): the compensator, hold, the sample of each loop, the sled, the temperature band, and
the requests that reach the block. -/

namespace Sys2Proof.Machine

open Sys2Proof

/-! ## The compensator (R22 to R28) -/

/-- Saturation to 16 bits signed. -/
def sat16 (v : Int) : Int := clamp (-32768) 32767 v

/-- The exact output of a section before saturation (R23). -/
def Biquad.out (q : Biquad) (d : Delay) (e : Int) : Int :=
  roundShift (q.b0 * e + q.b1 * d.x1 + q.b2 * d.x2 - q.a1 * d.y1 - q.a2 * d.y2) 13

/-- The states of a section shift (R23). -/
def Delay.shift (d : Delay) (e y : Int) : Delay := { x1 := e, x2 := d.x1, y1 := y, y2 := d.y1 }

/-- What one compensator sample yields. `events` are the codes of R28 in rising order. -/
structure Comp where
  d1 : Delay
  d2 : Delay
  v : Int
  limited : Bool
  events : List Nat
deriving DecidableEq, Repr

/-- The effective gain before its clamp (R25). -/
def rawGain (g trim : Nat) : Nat := (g * trim + 8192) / 16384

/-- The events noted in a sample (R28). -/
def notedEvents (e1 e2 e3 e4 e5 : Bool) : List Nat :=
  (if e1 then [1] else []) ++ (if e2 then [2] else []) ++ (if e3 then [3] else []) ++ (if e4 then [4] else [])
    ++ (if e5 then [5] else [])

/-- The coefficients of the gain set in use (R22). -/
def Loop.coefs (l : Loop) : CoefSet := match l.gainUse with | .normal => l.params.coefN | .shock => l.params.coefS

/-- G of the gain set in use. -/
def Loop.gain (l : Loop) : Nat := match l.gainUse with | .normal => l.params.gainN | .shock => l.params.gainS

/-- S of the gain set in use. -/
def Loop.shift (l : Loop) : Nat := match l.gainUse with | .normal => l.params.shiftN | .shock => l.params.shiftS

/-- One compensator sample on input e in temperature band b (R23 to R27). -/
def Loop.compute (l : Loop) (b : Nat) (e : Int) : Comp :=
  let y := l.coefs.s1.out l.d1 e
  let y2 := l.coefs.s2.out l.d2 (sat16 y)
  let g := rawGain l.gain (l.params.trim.getD b 0)
  let u := roundShift (sat16 y2 * (min g 65535 : Nat)) l.shift
  let v := sat16 u + l.params.bias + l.ff
  let limited := decide (clampAbs l.params.limit v ≠ v)
  { d1 := l.d1.shift e (sat16 y),
    d2 := if limited then l.d2 else l.d2.shift (sat16 y) (sat16 y2),
    v := clampAbs l.params.limit v, limited := limited,
    events := notedEvents (decide (sat16 y ≠ y)) (decide (sat16 y2 ≠ y2)) (decide (65535 < g)) (decide (sat16 u ≠ u))
      limited }

/-! ## One loop sample (R14, R16 to R21, R29) -/

/-- The loop goes to OFF (R16); a loop already OFF does not change. -/
def Loop.goOff (l : Loop) : Loop :=
  match l.state with
  | .off => l
  | _ => { l with state := .off, d1 := Delay.zero, d2 := Delay.zero, holdCount := 0, limitCount := 0,
                  holds := HoldSet.empty, lock := false, held := none }

/-- Some hold source stands. -/
def HoldSet.any (h : HoldSet) : Bool := h.defect || h.predict || h.supply

/-- CLOSED or HOLD. -/
def loopClosed (st : LoopState) : Bool := decide (st = .closed) || decide (st = .hold)

/-- Step 3: the pending position request is taken (R16). `allowed` is false for a tracking loop without focus; then an OPEN
or CLOSE is discarded, the loop goes OFF, and the second part tells that the Position Controller is told so. -/
def Loop.takeRequest (l : Loop) (allowed : Bool) : Loop × Bool :=
  match l.request with
  | none => (l, false)
  | some .off => (Loop.goOff { l with request := none }, false)
  | some (.openWith d) =>
    if allowed then ({ l with request := none, state := .opened, openDrive := d, held := none,
                                lock := l.lock && !loopClosed l.state }, false)
    else (Loop.goOff { l with request := none }, true)
  | some .close =>
    if allowed then
      ({ l with request := none, state := .closed, d1 := Delay.zero, d2 := Delay.zero, limitCount := 0, holdCount := 0,
                held := none }, false)
    else (Loop.goOff { l with request := none }, true)

/-- Step 4: a SUPPLY source is acted on (R21). -/
def Loop.supplyOff (l : Loop) : Loop :=
  if l.holds.supply then
    match l.state with
    | .off => { l with holds := { l.holds with supply := false } }
    | _ => l.goOff
  else l

/-- What steps 5 to 7 of a loop sample yield: the context, the value delivered at step 8, and what was raised. -/
structure Sampled where
  l : Loop
  v : Int
  holdTimeout : Bool
  limitRun : Bool
deriving DecidableEq, Repr

/-- A CLOSED sample is computed (R23 to R29). -/
def Loop.closedSample (l : Loop) (b : Nat) (e : Int) : Sampled :=
  let k := l.compute b e
  let n := if k.limited then satIncr l.limitCount else 0
  let raised := k.limited && decide (l.params.limitRun ≤ n)
  { l := { l with d1 := k.d1, d2 := k.d2, limitCount := if raised then 0 else n,
                  eventCount := if k.events.isEmpty then l.eventCount else satIncr l.eventCount,
                  lastEvent := k.events.head?.getD l.lastEvent },
    v := k.v, holdTimeout := false, limitRun := raised }

/-- Step 7 of a HOLD sample that delivers v (R20). -/
def Loop.checkHold (l : Loop) (v : Int) : Sampled :=
  if l.params.holdMax ≤ l.holdCount then
    { l := { l with state := .closed, holds := HoldSet.empty, holdCount := 0, held := none }, v := v,
      holdTimeout := true, limitRun := false }
  else { l := l, v := v, holdTimeout := false, limitRun := false }

/-- Steps 5 to 7 (R15, R18 to R20). `fromOutput` is the output a hold entered now freezes. -/
def Loop.form (l : Loop) (fromOutput : Int) (b : Nat) (e : Int) : Sampled :=
  match l.state with
  | .off => { l := l, v := 0, holdTimeout := false, limitRun := false }
  | .opened => { l := l, v := clampAbs 1023 l.openDrive, holdTimeout := false, limitRun := false }
  | .closed =>
    if l.holds.any then
      Loop.checkHold { l with state := .hold, held := some fromOutput, holdCount := 1 } fromOutput
    else l.closedSample b e
  | .hold =>
    if l.holds.any then Loop.checkHold { l with holdCount := satIncr l.holdCount } (l.held.getD l.last)
    else Loop.closedSample { l with state := .closed, held := none, holdCount := 0 } b e

/-- The output that a hold entered in a sample freezes, from the context before step 3 (R18): the drive given in OPEN, 0 from
OFF, the last applied output else. -/
def Loop.holdFrom (l : Loop) : Int :=
  match l.state with
  | .off => 0
  | .opened => clampAbs 1023 l.openDrive
  | _ => l.last

/-! ## The block -/

/-- The context of a loop. -/
def LoopProc.get (b : LoopProc) (id : LoopId) : Loop := match id with | .focus => b.focus | .track => b.track

/-- The block with a context replaced. -/
def LoopProc.set (b : LoopProc) (id : LoopId) (l : Loop) : LoopProc :=
  match id with | .focus => { b with focus := l } | .track => { b with track := l }

/-- Either loop holds a hold source (R32). -/
def LoopProc.anyHold (b : LoopProc) : Bool := b.focus.holds.any || b.track.holds.any

/-- A change of either hold-source set since `b0` is reported to the Position and Recovery Controllers (R32). -/
def LoopProc.reportHolds (b0 : LoopProc) (w : W LoopProc) : W LoopProc :=
  if w.blk.focus.holds = b0.focus.holds ∧ w.blk.track.holds = b0.track.holds then w
  else w.sendAll [.neighbourReport (.holdSource w.blk.anyHold), .holdSourceReport (.holdSource w.blk.anyHold)]

/-- A change of the state of a loop since `b0` is reported to the Position Controller, with focus-in and focus-out to the
Position Controller and the Defect Monitor (R17, R32). `asked` tells that an OFF is one that was requested (log 15). -/
def LoopProc.reportState (id : LoopId) (asked : Bool) (b0 : LoopProc) (w : W LoopProc) : W LoopProc :=
  let st := (w.blk.get id).state
  let st0 := (b0.get id).state
  let w1 := w.sendIf (decide (st ≠ st0)) (.loopStateReport (.state id st asked))
  match id with
  | .track => w1
  | .focus =>
    if loopClosed st0 && !loopClosed st then w1.sendAll [.loopStateReport .focusOut, .focusOutReport]
    else if !loopClosed st0 && loopClosed st then w1.sendAll [.loopStateReport .focusIn, .focusInReport]
    else w1

/-- The condition of a limit run (R29). -/
def limitCondition : LoopId → Condition
  | .focus => .focusLimit
  | .track => .trackLimit

/-- The delivery of a loop's output (R32). -/
def loopDelivery (id : LoopId) (v : Int) : Delivery := match id with | .focus => .focus v | .track => .track v

/-- The group of a loop. -/
def loopGroupOf : LoopId → Fin 10
  | .focus => 0
  | .track => 1

/-- The group of a loop, as its owner's report names it. -/
def loopPartOf : LoopId → GroupPart
  | .focus => .focus
  | .track => .track

/-- Step 1 for group 0 or 1 (R36). -/
def LoopProc.applyLoopGroup (id : LoopId) (img : Memory) (w : W LoopProc) : W LoopProc :=
  let l := w.blk.get id
  if l.awaiting = 0 then w
  else
    let p := stagedLoopParams img (loopGroupOf id).val
    (w.put (w.blk.set id { l with params := p.1, awaiting := 0 })).sendAll (groupReports (loopPartOf id) p.2 l.awaiting)

/-- Step 1 of the tracking sample for group 2 (R36). -/
def LoopProc.applySledGroup (img : Memory) (w : W LoopProc) : W LoopProc :=
  if w.blk.sled.awaiting = 0 then w
  else
    let p := stagedSledParams img
    (w.put { w.blk with sled := { w.blk.sled with params := p.1, awaiting := 0 } }).sendAll
      (groupReports .sled p.2 w.blk.sled.awaiting)

/-- SUPPLY takes a loop to OFF that was OFF before the sample and left OFF at its step 3: no change of state shows at the end
of the sample, and the loop is still reported OFF (R21, R47). -/
def Loop.dropped (l0 l : Loop) : Bool := decide (l0.state = .off) && decide (l.state ≠ .off) && l.holds.supply

/-- One loop sample (R14). `allowed` is R16's condition on the focus loop, `forceOff` tells that the focus loop has left CLOSED
and HOLD at the focus sample of this set (R17). A tracking OPEN or CLOSE pending at such a set is discarded by R17, as for a
taken OFF, and no tracking-OFF notice of R16 is sent (log 57). -/
def LoopProc.sampleLoop (id : LoopId) (e : Int) (allowed forceOff : Bool) (w : W LoopProc) : W LoopProc :=
  let b0 := w.blk
  let l0 := b0.get id
  let l1 := { l0 with gainUse := l0.gainReq }
  let r := if forceOff then (Loop.goOff { l1 with request := none }, false) else l1.takeRequest allowed
  let o := (Loop.supplyOff r.1).form l1.holdFrom b0.band e
  let w1 := (w.put (b0.set id { o.l with last := o.v })).send (.dutyDelivery (loopDelivery id o.v))
  let asked := decide (l0.request = some .off)
  let w2 := ((LoopProc.reportState id asked b0 w1).sendIf (Loop.dropped l0 r.1) (.loopStateReport (.state id .off false))).sendIf
    r.2
    .trackingOffNotice
  let w3 := LoopProc.reportHolds b0 w2
  let w4 := if o.holdTimeout then (w3.send (.condition .holdTimeout)).note .holdTimeout else w3
  if o.limitRun then (w4.send (.condition (limitCondition id))).note .limitRun else w4

/-! ## The sled (R33 to R35) -/

/-- The duty of a sled update from the window sum (R34, items 1 to 3). -/
def Sled.duty (k : Sled) (sum : Int) : Int :=
  let m := (sum + 4) / 8
  if m.natAbs ≤ k.params.deadband then 0
  else clampAbs k.params.limit (roundShift ((m - signOf m * k.params.deadband) * k.params.gain) k.params.shift)

/-- SLED_HOME asserted replaces a negative duty by 0 (R34). -/
def atHome (home : Bool) (d : Int) : Int := if home && decide (d < 0) then 0 else d

/-- The sled duty d, after the replacement, is delivered and becomes the last duty. -/
def LoopProc.deliverSled (home : Bool) (d : Int) (w : W LoopProc) : W LoopProc :=
  (w.put { w.blk with sled := { w.blk.sled with lastDuty := atHome home d } }).send
    (.dutyDelivery (.sled (atHome home d)))

/-- The same, where the value differs from the last duty; else nothing. -/
def LoopProc.deliverSledIfNew (home : Bool) (d : Int) (w : W LoopProc) : W LoopProc :=
  if atHome home d = w.blk.sled.lastDuty then w else LoopProc.deliverSled home d w

/-- A request of the Position Controller takes effect at the sled step (R35). -/
def LoopProc.takeSledRequest (home : Bool) (w : W LoopProc) : W LoopProc :=
  match w.blk.sled.request with
  | none => w
  | some (.driven d) => w.put { w.blk with sled := { w.blk.sled with request := none, mode := .driven d } }
  | some .toLoop =>
    LoopProc.deliverSledIfNew home 0
      (w.put { w.blk with sled := { w.blk.sled with request := none, mode := .loop, sum := 0, phase := 0 } })

/-- The sled step of a set (R33 to R35), after the tracking sample has delivered v. -/
def LoopProc.sledStep (home : Bool) (v : Int) (w0 : W LoopProc) : W LoopProc :=
  let w := LoopProc.takeSledRequest home w0
  let k := w.blk.sled
  match k.mode with
  | .driven d => LoopProc.deliverSledIfNew home d w
  | .loop =>
    if w.blk.track.state = .closed then
      if k.phase + 1 < 8 then w.put { w.blk with sled := { k with sum := k.sum + v, phase := k.phase + 1 } }
      else
        (LoopProc.deliverSled home (k.duty (k.sum + v))
          (w.put { w.blk with sled := { k with sum := 0, phase := 0 } })).note .sledUpdate
    else LoopProc.deliverSledIfNew home 0 (w.put { w.blk with sled := { k with sum := 0, phase := 0 } })

/-! ## The temperature band (R31) -/

/-- The thresholds of the five boundaries, TB1 first. -/
def TemperatureParams.thresholds (p : TemperatureParams) : List Nat := [p.tb1, p.tb2, p.tb3, p.tb4, p.tb5]

/-- TBk, k = 1..5. -/
def TemperatureParams.tb (p : TemperatureParams) (k : Nat) : Int := (p.thresholds.getD (k - 1) 0 : Nat)

/-- While b is below 5 and TM ≥ TB(b+1), b increases by 1; five tries at most can succeed. -/
def TemperatureParams.rise (p : TemperatureParams) (tm : Int) : Nat → Nat → Nat
  | 0, b => b
  | n + 1, b => if b < 5 ∧ p.tb (b + 1) ≤ tm then p.rise tm n (b + 1) else b

/-- While b is above 0 and TM < TB(b) − TB.HYST, b decreases by 1. -/
def TemperatureParams.fall (p : TemperatureParams) (tm : Int) : Nat → Nat → Nat
  | 0, b => b
  | n + 1, b => if 0 < b ∧ tm < p.tb b - p.hyst then p.fall tm n (b - 1) else b

/-- The band after a refresh (R31). -/
def LoopProc.nextBand (b : LoopProc) (tm : Int) : Nat :=
  if b.bandSet then
    let up := b.temp.rise tm 5 b.band
    if up = b.band then b.temp.fall tm 5 b.band else up
  else (b.temp.thresholds.filter (fun (t : Nat) => decide ((t : Int) ≤ tm))).length

/-- A refresh evaluates the band (R31). -/
def LoopProc.refreshBand (r : Option Refresh) (b : LoopProc) : LoopProc :=
  match r with
  | none => b
  | some r => { b with band := b.nextBand r.tm, bandSet := true }

/-! ## The set (R14) -/

/-- R17 has taken the tracking loop to OFF: the sled is in mode LOOP (R35). -/
def LoopProc.sledToLoop (went : Bool) (w : W LoopProc) : W LoopProc :=
  if went then w.put { w.blk with sled := { w.blk.sled with mode := .loop } } else w

/-- The Loop Processor takes a set: the band, the focus sample, the tracking sample, the sled step (R14, R17, R31). -/
def LoopProc.takeSet (x : SampleSet) (img : Memory) (home : Bool) (b : LoopProc) : W LoopProc :=
  let wf := LoopProc.sampleLoop .focus x.fe true false
    (LoopProc.applyLoopGroup .focus img (W.start (b.refreshBand x.refresh)))
  let closed := loopClosed wf.blk.focus.state
  let focusOut := loopClosed b.focus.state && !closed
  let wt := LoopProc.sampleLoop .track x.te closed focusOut
    (LoopProc.applySledGroup img (LoopProc.applyLoopGroup .track img wf))
  let ws := LoopProc.sledToLoop (focusOut && decide (b.track.state ≠ .off)) wt
  LoopProc.sledStep home wt.blk.track.last ws

/-- The state after the Loop Processor takes a set. -/
def State.loopSet (s : State) (x : SampleSet) : State :=
  s.takeLoop (.loopSampleSet x) (fun t => LoopProc.takeSet x t.bus.image t.pins.sledHome t.loop)

/-- LOOP_SAMPLE_SET. -/
def execLoopSampleSet (x : SampleSet) (s : State) : Host.Outcome State Fault Refusal := .next (s.loopSet x)

/-- HOLD_TIMEOUT: the set at which a hold times out (R20). -/
def execHoldTimeout (x : SampleSet) (s : State) : Host.Outcome State Fault Refusal :=
  .next (within .holdTimeout (s.loopSet x) s)

/-- LIMIT_RUN: the set at which a limit run is reached (R29). -/
def execLimitRun (x : SampleSet) (s : State) : Host.Outcome State Fault Refusal :=
  .next (within .limitRun (s.loopSet x) s)

/-- SLED_UPDATE: the set at which a sled update is computed (R34). -/
def execSledUpdate (x : SampleSet) (s : State) : Host.Outcome State Fault Refusal :=
  .next (within .sledUpdate (s.loopSet x) s)

/-! ## Requests -/

/-- A request of the Position Controller reaches a loop (R16). -/
def Loop.receive (l : Loop) (r : PosReq) : Loop :=
  match r with
  | .off => { l with request := some .off }
  | .openWith d => { l with request := some (.openWith d) }
  | .close => { l with request := some .close }
  | .drive d =>
    match l.request with
    | some (.openWith _) => { l with request := some (.openWith d) }
    | _ => { l with openDrive := d }

/-- POSITION_REQUEST (R16). -/
def execPositionRequest (loop : LoopId) (req : PosReq) (s : State) : Host.Outcome State Fault Refusal :=
  .next (s.takeLoop (.positionRequest loop req) (fun t => W.start (t.loop.set loop ((t.loop.get loop).receive req))))

/-- The set with one source added or removed (R18). -/
def HoldSet.change (h : HoldSet) (src : HoldSource) (on : Bool) : HoldSet :=
  match src with
  | .defect => { h with defect := on }
  | .predict => { h with predict := on }
  | .supply => { h with supply := on }

/-- The request is for this loop. -/
def LoopTarget.covers (t : LoopTarget) (id : LoopId) : Bool :=
  match t, id with
  | .both, _ => true
  | .focus, .focus => true
  | .track, .track => true
  | _, _ => false

/-- A change of each loop that a request is for. -/
def LoopProc.change (loops : LoopTarget) (f : Loop → Loop) (b : LoopProc) : LoopProc :=
  { b with focus := if LoopTarget.covers loops .focus then f b.focus else b.focus,
           track := if LoopTarget.covers loops .track then f b.track else b.track }

/-- HOLD_SOURCE_REQUEST: a source is requested (on) or withdrawn (R18). -/
def execHoldSourceRequest (loops : LoopTarget) (src : HoldSource) (on : Bool) (s : State) :
    Host.Outcome State Fault Refusal :=
  .next (s.takeLoop (.holdSourceRequest loops src on) (fun t =>
    LoopProc.reportHolds t.loop
      (W.start (t.loop.change loops (fun l => { l with holds := l.holds.change src on })))))

/-- GAIN_SET_REQUEST (R22). -/
def execGainSetRequest (loops : LoopTarget) (set : GainSet) (s : State) : Host.Outcome State Fault Refusal :=
  .next (s.takeLoop (.gainSetRequest loops set) (fun t =>
    W.start (t.loop.change loops (fun l => { l with gainReq := set }))))

/-- FEED_FORWARD_VALUE (R30). -/
def execFeedForwardValue (loop : LoopId) (v : Int) (s : State) : Host.Outcome State Fault Refusal :=
  .next (s.takeLoop (.feedForwardValue loop v) (fun t =>
    W.start (t.loop.set loop { t.loop.get loop with ff := v })))

/-- SLED_REQUEST (R35): it takes effect at the next set's sled step. A later request replaces one that no sled step has taken
yet (log 45). -/
def execSledRequest (req : SledReq) (s : State) : Host.Outcome State Fault Refusal :=
  .next (s.takeLoop (.sledRequest req) (fun t =>
    W.start { t.loop with sled := { t.loop.sled with request := some req } }))

/-- SLED_HOME becomes asserted (R34). -/
def LoopProc.homeAsserted (b : LoopProc) : W LoopProc :=
  if b.sled.lastDuty < 0 then LoopProc.deliverSled true 0 (W.start b) else W.start b

/-- The input level of a SLED_HOME that becomes asserted between two sets (log 6). -/
def State.raiseHome (s : State) : State :=
  if s.held || s.transit.contains .sledHomeAsserted then s else { s with pins := { s.pins with sledHome := true } }

/-- SLED_HOME_ASSERTED (R34). -/
def execSledHomeAsserted (s : State) : Host.Outcome State Fault Refusal :=
  .next (s.raiseHome.takeLoop .sledHomeAsserted (fun t => LoopProc.homeAsserted t.loop))

/-- LOOP_GROUP_APPLY: the group waits for its sample (R36). -/
def execLoopGroupApply (g : LoopGroup) (s : State) : Host.Outcome State Fault Refusal :=
  .next (s.takeLoop (.loopGroupApply g) (fun t =>
    W.start (match g with
      | .focus => { t.loop with focus := { t.loop.focus with awaiting := t.loop.focus.awaiting + 1 } }
      | .track => { t.loop with track := { t.loop.track with awaiting := t.loop.track.awaiting + 1 } }
      | .sled => { t.loop with sled := { t.loop.sled with awaiting := t.loop.sled.awaiting + 1 } })))

/-- TEMPERATURE_GROUP_APPLY: group 9 is applied at once (R37). -/
def execTemperatureGroupApply (s : State) : Host.Outcome State Fault Refusal :=
  .next (s.takeLoop .temperatureGroupApply (fun t =>
    let p := stagedTemperatureParams t.bus.image
    (W.start { t.loop with temp := p.1 }).send (.groupAppliedReport .temperature p.2)))

/-- A loop context at RESET SERVO (R38). -/
def Loop.resetServo (l : Loop) : Loop :=
  { l with state := .off, d1 := Delay.zero, d2 := Delay.zero, holds := HoldSet.empty, held := none, holdCount := 0,
           limitCount := 0, last := 0, ff := 0, lock := false, request := none }

/-- The sled at RESET SERVO (R38); a request not yet taken is discarded with the others. -/
def Sled.resetServo (k : Sled) : Sled := { k with mode := .loop, sum := 0, phase := 0, lastDuty := 0, request := none }

/-- The Loop Processor takes RESET SERVO (R38, R17). -/
def LoopProc.resetServo (b : LoopProc) : W LoopProc :=
  let b1 := { b with focus := b.focus.resetServo, track := b.track.resetServo, sled := b.sled.resetServo }
  let w := (W.start b1).sendAll [.dutyDelivery (.focus 0), .dutyDelivery (.track 0), .dutyDelivery (.sled 0)]
  LoopProc.reportHolds b (LoopProc.reportState .track false b (LoopProc.reportState .focus false b w))

/-- RESET_SERVO_LOOP. -/
def execResetServoLoop (s : State) : Host.Outcome State Fault Refusal :=
  .next (s.takeLoop .resetServoLoop (fun t => LoopProc.resetServo t.loop))

end Sys2Proof.Machine
end

