-- ==== Sys2Proof/Machine/Position.lean ====
section
/-! DEFINITION. Position Controller (spec/03, spec/04): the set, with the crossing detector first (R60). -/

namespace Sys2Proof.Machine

open Sys2Proof

/-! ## The crossing detector (R60, R61, R63) -/

/-- The mirror state from RS of a set (R60). -/
def Pos.mirrorOf (b : Pos) (rs : Int) : Bool := decide (rs < b.params.mirror)

/-- Detection runs: focus CLOSED or HOLD as last reported, and no loop holds a source (R60). -/
def Pos.detecting (b : Pos) : Bool :=
  (decide (b.views.focus = .closed) || decide (b.views.focus = .hold)) && !b.views.held

/-- A crossing event comes with this set (R60). -/
def Pos.crossingAt (b : Pos) (te : Int) : Bool := b.detecting && b.armed && decide ((b.params.hyst : Int) < te)

/-- The detector phase after a set: ARMED or not (R60). -/
def Pos.armedAfter (b : Pos) (te : Int) : Bool :=
  b.detecting && (if b.armed then !decide ((b.params.hyst : Int) < te) else decide (te < -(b.params.hyst : Int)))

/-- The direction of a crossing (R60): outward while the mirror state of the set is LOW. -/
def crossingDir (mirror : Bool) : Int := if mirror then -1 else 1

/-- The detector's work at a set: mirror state, phase, counter, slip (R60, R61, R63). -/
def Pos.detect (x : SampleSet) (e : PosEnv) (w : W Pos) : W Pos :=
  let b := w.blk
  let mirror := b.mirrorOf x.rs
  let w1 := w.put { b with mirror := mirror, armed := b.armedAfter x.te }
  if b.crossingAt x.te then
    let w2 := Pos.stepCounter (crossingDir mirror) (w1.put { w1.blk with lastDir := some (crossingDir mirror) })
    w2.sendIf (decide (b.views.track = .closed) && e.trackLock) (.condition .trackSlip)
  else w1

/-! ## Focus loss (R46) -/

/-- The states in which the loss detector runs (R46). -/
def lossStates (st : PositionState) : Bool :=
  match st with
  | .idle => false
  | .focusSearch => false
  | .focusLocking => false
  | .parking => false
  | _ => true

/-- FOCUS_LOST is raised and acted on (R46). -/
def Pos.loseFocus (w : W Pos) : W Pos :=
  let w1 := Pos.focusToOff (Pos.interruptWork (w.send (.condition .focusLost)))
  let w2 := Pos.dropRecords (Pos.releaseSled w1)
  (Pos.setState .idle (w2.put { w2.blk with lossRun := 0 })).note .focusLost

/-- The loss detector's work at a set (R46); the second part tells that focus is lost. -/
def Pos.lossStep (x : SampleSet) (w : W Pos) : W Pos × Bool :=
  let b := w.blk
  if lossStates b.state && decide (b.views.focus = .closed) then
    if x.rs ≤ b.params.focusLoss then
      let n := satIncr b.lossRun
      let w1 := w.put { b with lossRun := n }
      if b.params.lossRun ≤ n then (Pos.loseFocus w1, true) else (w1, false)
    else (w.put { b with lossRun := 0 }, false)
  else (w, false)

/-! ## Focus search and lock (R43 to R45) -/

/-- The pull-in test (R44). -/
def Pos.pullInTest (b : Pos) (x : SampleSet) : Bool :=
  decide ((b.params.focusPullin : Int) < x.rs)
    && (decide (x.fe = 0)
        || (match b.prevFe with
            | none => false
            | some p => (decide (0 < x.fe) && decide (p < 0)) || (decide (x.fe < 0) && decide (0 < p))))

/-- The end of a traverse (R43). -/
def Pos.traverseEnd (b : Pos) (up : Bool) : Int := if up then b.params.searchAmp else -(b.params.searchAmp : Int)

/-- One step of the drive toward the end of a traverse, not past it (R43). A drive that a new, smaller P.SEARCH_AMP leaves beyond
the other end takes this step too (log 46). -/
def Pos.driveStep (b : Pos) (up : Bool) (drive : Int) : Int :=
  if up then min (b.traverseEnd true) (drive + b.params.searchStep)
  else max (b.traverseEnd false) (drive - b.params.searchStep)

/-- The search drive moves, or the search is exhausted (R43). -/
def Pos.searchStep (r : SearchRec) (w : W Pos) : W Pos :=
  let b := w.blk
  let go (r1 : SearchRec) : W Pos :=
    (w.put { b with search := some r1 }).send (.positionRequest .focus (.drive r1.drive))
  if r.drive ≠ b.traverseEnd r.up then go { r with drive := b.driveStep r.up r.drive }
  else if r.sweeps < b.params.searchSweeps then
    go { drive := b.driveStep (!r.up) r.drive, up := !r.up, sweeps := r.sweeps + 1 }
  else
    let w1 := Pos.endWork .notFound (some .failed) (Pos.focusToOff w)
    Pos.setState .idle (w1.put { w1.blk with search := none })

/-- A set in FOCUS_SEARCH (R43, R44). -/
def Pos.searchSet (x : SampleSet) (w : W Pos) : W Pos :=
  match w.blk.search with
  | none => w
  | some r =>
    if w.blk.pullInTest x then
      Pos.setState .focusLocking
        ((w.put { w.blk with lockRun := 0, lossRun := 0 }).send (.positionRequest .focus .close))
    else Pos.searchStep r w

/-- Focus locks (R45). -/
def Pos.lockFocus (w : W Pos) : W Pos :=
  let w1 := Pos.endWork .ok (some .done) w
  (Pos.setState .focused (w1.put { w1.blk with search := none })).note .focusLock

/-- A closure is abandoned, and the search goes on (R45). -/
def Pos.abandonClosure (r : SearchRec) (w : W Pos) : W Pos :=
  (Pos.setState .focusSearch
    ((w.put { w.blk with lockRun := 0, lossRun := 0 }).send (.positionRequest .focus (.openWith r.drive)))).note
      .focusClosureAbandoned

/-- A set in FOCUS_LOCKING (R45). -/
def Pos.lockingSet (x : SampleSet) (w : W Pos) : W Pos :=
  let b := w.blk
  match b.views.focus, b.search with
  | .hold, _ => w.put { b with lockRun := 0 }
  | .closed, some r =>
    let good := decide (x.fe.natAbs < b.params.feWindow) && decide ((b.params.focusLoss : Int) < x.rs)
    let dim := decide (x.rs ≤ b.params.focusLoss)
    let lock := if good then satIncr b.lockRun else 0
    let loss := if dim then satIncr b.lossRun else 0
    let w1 := w.put { b with lockRun := lock, lossRun := loss }
    if good && decide (b.params.lockRun ≤ lock) then Pos.lockFocus w1
    else if dim && decide (b.params.lossRun ≤ loss) then Pos.abandonClosure r w1
    else w1
  | _, _ => w

/-! ## The close and lock procedure of a pull-in and of a landing (R49, R50, R67) -/

/-- What a set does to a pull-in or catch record. -/
structure PullStep where
  pull : PullIn
  close : Bool
  lock : Bool
deriving DecidableEq, Repr

/-- A set before the CLOSE (R49). -/
def Pos.pullOpen (b : Pos) (x : SampleSet) (crossing : Bool) (p : PullIn) : PullStep :=
  if b.views.held then { pull := p, close := false, lock := false }
  else if crossing then
    if b.params.pullinInterval ≤ (x.stamp - p.lastCross).toNat then
      { pull := { p with closed := true, lockRun := 0 }, close := true, lock := false }
    else { pull := { p with quiet := 0, lastCross := x.stamp }, close := false, lock := false }
  else
    let n := satIncr p.quiet
    if b.params.pullinInterval ≤ n then
      { pull := { p with quiet := n, closed := true, lockRun := 0 }, close := true, lock := false }
    else { pull := { p with quiet := n }, close := false, lock := false }

/-- A set after the CLOSE (R50). -/
def Pos.pullClosed (b : Pos) (x : SampleSet) (crossing : Bool) (p : PullIn) : PullStep :=
  match b.views.track with
  | .off => { pull := p, close := false, lock := false }
  | .opened => { pull := p, close := false, lock := false }
  | .hold => { pull := { p with lockRun := 0 }, close := false, lock := false }
  | .closed =>
    if !crossing && decide (x.te.natAbs < b.params.teWindow) then
      { pull := { p with lockRun := satIncr p.lockRun }, close := false,
        lock := decide (b.params.lockRun ≤ satIncr p.lockRun) }
    else { pull := { p with lockRun := 0 }, close := false, lock := false }

/-- A set of the procedure, its elapsed time counted (R48). -/
def Pos.pullStep (b : Pos) (x : SampleSet) (crossing : Bool) (p : PullIn) : PullStep :=
  let p1 := { p with elapsed := p.elapsed + 1 }
  if p.closed then b.pullClosed x crossing p1 else b.pullOpen x crossing p1

/-- The elapsed time has reached R.RETRACK_TIMEOUT (R48). -/
def Pos.pullTimedOut (b : Pos) (p : PullIn) : Bool := decide (msSets b.params.retrackTimeout ≤ p.elapsed)

/-- A CLOSE request goes to the tracking loop. -/
def Pos.closeTracking (p : Bool) (w : W Pos) : W Pos :=
  if p then (w.send (.positionRequest .track .close)).note .trackingClose else w

/-- A set in TRACK_PULLIN (R48 to R50). -/
def Pos.pullInSet (x : SampleSet) (crossing : Bool) (w : W Pos) : W Pos :=
  match w.blk.pull with
  | none => w
  | some p =>
    let r := w.blk.pullStep x crossing p
    let w1 := Pos.closeTracking r.close (w.put { w.blk with pull := some r.pull })
    if r.lock then
      let w2 := Pos.endWork .ok (some .done) w1
      (Pos.setState .onTrack (w2.put { w2.blk with pull := none })).note .trackingLock
    else if w1.blk.pullTimedOut r.pull then
      let w2 := Pos.endWork .timeout (some .failed) (Pos.trackToOff w1)
      (Pos.setState .focused (w2.put { w2.blk with pull := none })).note .pullInTimeout
    else w1

/-! ## Motions (R66, R67, R69 to R71) -/

/-- A motion fails at its comparison or its seek timer: a host seek, or a jump, completes SEEK_FAILED with the condition; a
recovery seek reports FAILED (R70, R71). -/
def Pos.failMotion (st : PositionState) (w : W Pos) : W Pos :=
  let host := w.blk.hostWork
  (Pos.endMotion st .seekFailed (some .failed) w).sendIf host (.condition .seekFailed)

/-- The landing comparison of a motion with target t (R71). -/
def Pos.compare (m : Motion) (t : Int) (e : PosEnv) (w : W Pos) : W Pos :=
  let b := w.blk
  let dist := t - b.counter
  if !b.valid then Pos.failMotion .onTrack w
  else if dist = 0 then
    Pos.endMotion .onTrack (if m.clamped then .okClamped else .ok) (some .done) w
  else if dist.natAbs ≤ 16 ∧ m.corrections < 2 then
    Pos.startJump { m with corrections := m.corrections + 1 } dist (some t) w
  else if 16 < dist.natAbs ∧ m.retargeted then Pos.startRun m e w
  else Pos.failMotion .onTrack w

/-- A landing is complete (R67). -/
def Pos.completeLanding (m : Motion) (e : PosEnv) (w : W Pos) : W Pos :=
  let w1 :=
    if m.isSeek then Pos.compare m m.seekTarget e w
    else if !m.timedOut && decide (m.corrections = 0) then Pos.endMotion .onTrack .ok none w
    else
      match m.jumpTarget with
      | none => Pos.endMotion .onTrack .timeout none w
      | some t => Pos.compare m t e w
  w1.note .settleComplete

/-- The catch of a landing has its lock (R67): phase SETTLE. -/
def Pos.startSettle (m : Motion) (e : PosEnv) (w : W Pos) : W Pos :=
  let m1 := { m with phase := .settle, pull := none, settleCount := 0 }
  let w1 := (w.put { w.blk with motion := some m1 }).note .catchLock
  if w.blk.params.settle = 0 then Pos.completeLanding m1 e w1 else w1

/-- The catch times out (R67). A host seek raises SEEK_FAILED; a JUMP completes TIMEOUT. -/
def Pos.timeOutCatch (m : Motion) (w : W Pos) : W Pos :=
  let w1 := Pos.trackToOff w
  let w2 := if m.isSeek then Pos.failMotion .focused w1 else Pos.endMotion .focused .timeout none w1
  w2.note .catchTimeout

/-- A set in CATCH (R67). -/
def Pos.catchSet (x : SampleSet) (crossing : Bool) (e : PosEnv) (m : Motion) (w : W Pos) : W Pos :=
  match m.pull with
  | none => w
  | some p =>
    let r := w.blk.pullStep x crossing p
    let m1 := { m with pull := some r.pull }
    let w1 := Pos.closeTracking r.close (w.put { w.blk with motion := some m1 })
    if r.lock then Pos.startSettle m1 e w1
    else if w1.blk.pullTimedOut r.pull then Pos.timeOutCatch m1 w1
    else w1

/-- A set in SETTLE (R67). -/
def Pos.settleSet (e : PosEnv) (m : Motion) (w : W Pos) : W Pos :=
  let m1 := { m with settleCount := m.settleCount + 1 }
  let w1 := w.put { w.blk with motion := some m1 }
  if w.blk.params.settle ≤ m1.settleCount then Pos.completeLanding m1 e w1 else w1

/-- A jump brake ends (R66): drive 0, and the landing begins. -/
def Pos.endJumpBrake (m : Motion) (w : W Pos) : W Pos :=
  (Pos.startLanding m (w.send (.positionRequest .track (.drive 0)))).note .jumpBrakeEnd

/-- A kick ends (R66): the brake begins; with P.JUMP_BRAKE_TIME = 0 the landing begins at once. -/
def Pos.endKick (m : Motion) (w : W Pos) : W Pos :=
  let m1 := { m with phase := .brake, brakeCount := 0, jumpCount := 0 }
  let w1 := ((w.put { w.blk with motion := some m1 }).send
    (.positionRequest .track (.drive (-(m.dir * w.blk.params.jumpBrakeDuty))))).note .kickEnd
  if w.blk.params.jumpBrakeTime = 0 then Pos.endJumpBrake m1 w1 else w1

/-- The jump timer cuts a kick or brake short (R66). -/
def Pos.cutJump (m : Motion) (w : W Pos) : W Pos :=
  (Pos.startLanding { m with timedOut := true } (w.send (.positionRequest .track (.drive 0)))).note .jumpTimerExpiry

/-- After the work of a set in KICK or BRAKE: the jump timer, where the phase is still one of these (R66). A brake that ends at
the set at which the timer would expire ends by its count, and the timer stops (log 47). -/
def Pos.checkJumpTimer (w : W Pos) : W Pos :=
  match w.blk.motion with
  | none => w
  | some m =>
    match m.jumpTimer with
    | none => w
    | some t => if m.jumpSets ≤ t then Pos.cutJump m w else w

/-- A set in KICK or BRAKE (R66), its jump timer counted. -/
def Pos.jumpSet (dir : Option Int) (m0 : Motion) (w : W Pos) : W Pos :=
  let m := { m0 with jumpTimer := m0.jumpTimer.map (· + 1) }
  let keep (m : Motion) : W Pos := w.put { w.blk with motion := some m }
  let w1 :=
    match m.phase with
    | .kick =>
      if dir = some m.dir then
        if m.jumpCount ≤ 1 then Pos.endKick m w else keep { m with jumpCount := m.jumpCount - 1 }
      else keep m
    | _ =>
      if w.blk.params.jumpBrakeTime ≤ m.brakeCount + 1 then
        Pos.endJumpBrake { m with brakeCount := m.brakeCount + 1 } w
      else keep { m with brakeCount := m.brakeCount + 1 }
  Pos.checkJumpTimer w1

/-- A set in RUN (R69). -/
def Pos.runSet (crossing : Bool) (e : PosEnv) (m : Motion) (w : W Pos) : W Pos :=
  if crossing && decide (m.remaining w.blk.counter ≤ w.blk.params.brakeDist) then Pos.startSledBrake m e w else w

/-- A set in SLED_BRAKE (R69). -/
def Pos.sledBrakeSet (e : PosEnv) (m : Motion) (w : W Pos) : W Pos :=
  let m1 := { m with brakeCount := m.brakeCount + 1 }
  if e.brakeTime ≤ m1.brakeCount then Pos.endSledBrake m1 w
  else w.put { w.blk with motion := some m1 }

/-- The seek timer has expired (R70). -/
def Pos.timeOutSeek (m : Motion) (w : W Pos) : W Pos :=
  let w1 :=
    match m.phase with
    | .settle => Pos.failMotion .onTrack w
    | _ => Pos.failMotion .focused (Pos.releaseSled (Pos.trackToOff w))
  w1.note .seekTimeout

/-- After the work of a set: the seek timer, where the seek is still in flight, by the phase that this work has left (R70;
log 60). -/
def Pos.checkSeekTimer (w : W Pos) : W Pos :=
  match w.blk.motion with
  | none => w
  | some m => if m.isSeek && decide (msSets w.blk.params.seekTimeout ≤ m.seekTimer) then Pos.timeOutSeek m w else w

/-- A set with a motion in flight, its seek timer counted. `dir` is the direction of a crossing event of the set. -/
def Pos.motionSet (x : SampleSet) (dir : Option Int) (e : PosEnv) (m0 : Motion) (w0 : W Pos) : W Pos :=
  let m := if m0.isSeek then { m0 with seekTimer := m0.seekTimer + 1 } else m0
  let w := w0.put { w0.blk with motion := some m }
  let w1 :=
    match m.phase with
    | .kick => Pos.jumpSet dir m w
    | .brake => Pos.jumpSet dir m w
    | .run => Pos.runSet dir.isSome e m w
    | .sledBrake => Pos.sledBrakeSet e m w
    | .landing => Pos.catchSet x dir.isSome e m w
    | .settle => Pos.settleSet e m w
  Pos.checkSeekTimer w1

/-! ## Park (R55) -/

/-- A set in PARKING (R55). -/
def Pos.parkSet (e : PosEnv) (w : W Pos) : W Pos :=
  let n := w.blk.parkTimer.getD 0 + 1
  if e.home then Pos.endPark .ok w
  else if msSets 2000 ≤ n then (Pos.endPark .timeout w).note .parkTimeout
  else w.put { w.blk with parkTimer := some n }

/-! ## The set (R40) -/

/-- The rules of the position state at a set. -/
def Pos.stateSet (x : SampleSet) (dir : Option Int) (e : PosEnv) (w : W Pos) : W Pos :=
  match w.blk.state, w.blk.motion with
  | .focusSearch, _ => Pos.searchSet x w
  | .focusLocking, _ => Pos.lockingSet x w
  | .trackPullin, _ => Pos.pullInSet x dir.isSome w
  | .parking, _ => Pos.parkSet e w
  | _, some m => Pos.motionSet x dir e m w
  | _, none => w

/-- The Position Controller takes a set: the crossing detector, focus loss (log 14), then the rules of the position state; the
FE of the set becomes the previous FE (log 16). -/
def Pos.takeSet (x : SampleSet) (e : PosEnv) (b : Pos) : W Pos :=
  let dir := if b.crossingAt x.te then some (crossingDir (b.mirrorOf x.rs)) else none
  let w1 := Pos.detect x e (W.start { b with lastStamp := x.stamp })
  let w2 := Pos.lossStep x w1
  let w3 := if w2.2 then w2.1 else Pos.stateSet x dir e w2.1
  w3.put { w3.blk with prevFe := some x.fe }

/-- The lock indicator is set by the Position Controller as its lock detectors decide (R17, R45, R50, R67). -/
def State.setLocks (s : State) : State :=
  let f := s.loop.focus.lock || s.subs.contains .focusLock
  let t := s.loop.track.lock || s.subs.contains .trackingLock || s.subs.contains .catchLock
  { s with loop := { s.loop with focus := { s.loop.focus with lock := f }, track := { s.loop.track with lock := t } } }

/-- The state after the Position Controller takes a set. -/
def State.positionSet (s : State) (x : SampleSet) : State :=
  s.taking (.positionSet x) (fun t => (t.putPos (Pos.takeSet x t.posEnv t.pos)).setLocks)

/-- POSITION_SET. -/
def execPositionSet (x : SampleSet) (s : State) : Host.Outcome State Fault Refusal := .next (s.positionSet x)

/-- FOCUS_LOCK (R45). -/
def execFocusLock (x : SampleSet) (s : State) : Host.Outcome State Fault Refusal :=
  .next (within .focusLock (s.positionSet x) s)

/-- FOCUS_CLOSURE_ABANDONED (R45). -/
def execFocusClosureAbandoned (x : SampleSet) (s : State) : Host.Outcome State Fault Refusal :=
  .next (within .focusClosureAbandoned (s.positionSet x) s)

/-- FOCUS_LOST (R46). -/
def execFocusLost (x : SampleSet) (s : State) : Host.Outcome State Fault Refusal :=
  .next (within .focusLost (s.positionSet x) s)

/-- TRACKING_CLOSE (R49). -/
def execTrackingClose (x : SampleSet) (s : State) : Host.Outcome State Fault Refusal :=
  .next (within .trackingClose (s.positionSet x) s)

/-- TRACKING_LOCK (R50). -/
def execTrackingLock (x : SampleSet) (s : State) : Host.Outcome State Fault Refusal :=
  .next (within .trackingLock (s.positionSet x) s)

/-- PULL_IN_TIMEOUT (R48). -/
def execPullInTimeout (x : SampleSet) (s : State) : Host.Outcome State Fault Refusal :=
  .next (within .pullInTimeout (s.positionSet x) s)

/-- PARK_TIMEOUT (R55). -/
def execParkTimeout (x : SampleSet) (s : State) : Host.Outcome State Fault Refusal :=
  .next (within .parkTimeout (s.positionSet x) s)

/-- KICK_END (R66). -/
def execKickEnd (x : SampleSet) (s : State) : Host.Outcome State Fault Refusal :=
  .next (within .kickEnd (s.positionSet x) s)

/-- JUMP_BRAKE_END (R66). -/
def execJumpBrakeEnd (x : SampleSet) (s : State) : Host.Outcome State Fault Refusal :=
  .next (within .jumpBrakeEnd (s.positionSet x) s)

/-- JUMP_TIMER_EXPIRY (R66). -/
def execJumpTimerExpiry (x : SampleSet) (s : State) : Host.Outcome State Fault Refusal :=
  .next (within .jumpTimerExpiry (s.positionSet x) s)

/-- CATCH_LOCK (R67). -/
def execCatchLock (x : SampleSet) (s : State) : Host.Outcome State Fault Refusal :=
  .next (within .catchLock (s.positionSet x) s)

/-- CATCH_TIMEOUT (R67). -/
def execCatchTimeout (x : SampleSet) (s : State) : Host.Outcome State Fault Refusal :=
  .next (within .catchTimeout (s.positionSet x) s)

/-- SETTLE_COMPLETE (R67, R71). -/
def execSettleComplete (x : SampleSet) (s : State) : Host.Outcome State Fault Refusal :=
  .next (within .settleComplete (s.positionSet x) s)

/-- SLED_BRAKE_END (R69). -/
def execSledBrakeEnd (x : SampleSet) (s : State) : Host.Outcome State Fault Refusal :=
  .next (within .sledBrakeEnd (s.positionSet x) s)

/-- SEEK_TIMEOUT (R70). -/
def execSeekTimeout (x : SampleSet) (s : State) : Host.Outcome State Fault Refusal :=
  .next (within .seekTimeout (s.positionSet x) s)

end Sys2Proof.Machine
end

