-- ==== Sys2Proof/Machine/Reset.lean ====
section
/-! DEFINITION. Power-on reset, the RESET input, and its release (R1, R13, R107, R130, R179, R180, R190). -/

namespace Sys2Proof.Machine

open Sys2Proof

/-- The machine after power-on reset. The input levels, the clock with the latest sample instant, and the count of free values
are no state of a block. -/
def State.powerOn (s : State) : State :=
  { State.reset with pins := s.pins, clock := s.clock, instant := s.instant, freeCount := s.freeCount, pending := s.pending }

/-- POWER_ON_RESET. -/
def execPowerOnReset (s : State) : Host.Outcome State Fault Refusal := .next s.powerOn

/-- RESET is asserted: as a power-on reset, but the servo area stays where it is until the next release, and the bus goes on
(R180). -/
def State.assertReset (s : State) : State :=
  { s.powerOn with bus := { Bus.reset with area := s.bus.area, passed := s.bus.passed, answer := s.bus.answer } }

/-- RESET_ASSERT. -/
def execResetAssert (s : State) : Host.Outcome State Fault Refusal := .next s.assertReset

/-- RESET is released: the straps are read (R180) and the Hall state present is taken without an edge (R107). -/
def State.release (s : State) (area : BitVec 4) (hall : BitVec 3) : State :=
  if s.held then
    { s with held := false, bus := { s.bus with area := area }, spin := { s.spin with hall := hall }, subs := [] }
  else s

/-- RESET_RELEASE. -/
def execResetRelease (area : BitVec 4) (hall : BitVec 3) (s : State) : Host.Outcome State Fault Refusal :=
  .next (s.release area hall)

end Sys2Proof.Machine
end

