-- ==== Sys2Proof/Machine/Shock.lean ====
section
/-! DEFINITION. Shock Monitor (spec/06). -/

namespace Sys2Proof.Machine

open Sys2Proof

/-- A feed-forward value (R101). -/
def feedForward (p : ShockParams) (factor shc : Int) : Int := clampAbs p.ffLimit ((shc * factor + 2048) / 4096)

/-- The shock begins (R98). -/
def Shock.begin_ (w : W Shock) : W Shock :=
  ((w.put { w.blk with shock := true, startRun := 0, quietCount := 0, count := satIncr w.blk.count }).sendAll
    [.gainSetRequest .both .shock, .shockReport true, .triggerEvent .shockStart]).note .shockStart

/-- The shock ends (R99). -/
def Shock.finish (w : W Shock) : W Shock :=
  ((w.put { w.blk with shock := false, startRun := 0, quietCount := 0 }).sendAll
    [.gainSetRequest .both .normal, .shockReport false]).note .shockEnd

/-- Step 2 of a set: detection (R98, R99). -/
def Shock.detect (m : Nat) (w : W Shock) : W Shock :=
  let b := w.blk
  if b.shock then
    if m < b.params.stop then
      if b.params.quiet ≤ satIncr b.quietCount then Shock.finish w
      else w.put { b with quietCount := satIncr b.quietCount }
    else w.put { b with quietCount := 0 }
  else
    if b.params.start ≤ m then
      if 2 ≤ b.startRun + 1 then Shock.begin_ w else w.put { b with startRun := b.startRun + 1 }
    else w.put { b with startRun := 0 }

/-- Steps 3 and 4 of a set: the feed-forward values are formed and handed over (R101, R102). -/
def Shock.feed (w : W Shock) : W Shock :=
  let b := w.blk
  let on := b.shock && decide (b.params.ffEnable = 1)
  let f := if on then feedForward b.params b.params.ffF b.shc else 0
  let t := if on then feedForward b.params b.params.ffT b.shc else 0
  (w.put { b with ffFocus := f, ffTrack := t }).sendAll [.feedForwardValue .focus f, .feedForwardValue .track t]

/-- The Shock Monitor takes a set (R97). -/
def Shock.takeSet (x : SampleSet) (b : Shock) : W Shock :=
  Shock.feed (Shock.detect x.sh.natAbs (W.start { b with shc := x.sh }))

/-- The state after the Shock Monitor takes a set. -/
def State.shockSet (s : State) (x : SampleSet) : State :=
  s.takeShock (.shockSet x) (fun t => Shock.takeSet x t.shock)

/-- SHOCK_SET. -/
def execShockSet (x : SampleSet) (s : State) : Host.Outcome State Fault Refusal := .next (s.shockSet x)

/-- SHOCK_START (R98). -/
def execShockStart (x : SampleSet) (s : State) : Host.Outcome State Fault Refusal :=
  .next (within .shockStart (s.shockSet x) s)

/-- SHOCK_END (R99). -/
def execShockEnd (x : SampleSet) (s : State) : Host.Outcome State Fault Refusal :=
  .next (within .shockEnd (s.shockSet x) s)

/-- SHOCK_GROUP_APPLY (R105). -/
def execShockGroupApply (s : State) : Host.Outcome State Fault Refusal :=
  .next (s.takeShock .shockGroupApply (fun t =>
    let p := stagedShockParams t.bus.image
    (W.start { t.shock with params := p.1 }).send (.groupAppliedReport .shock p.2)))

/-- RESET_SERVO_SHOCK: everything is kept (R106). -/
def execResetServoShock (s : State) : Host.Outcome State Fault Refusal :=
  .next (s.takeShock .resetServoShock (fun t => W.start t.shock))

end Sys2Proof.Machine
end

