-- ==== Sys2Proof/Machine/Spindle.lean ====
section
/-! DEFINITION. Spindle Controller (spec/07): Hall decoding, commutation, the speed loop, the spindle states. -/

namespace Sys2Proof.Machine

open Sys2Proof

/-! ## Reports and completions -/

/-- The spindle runs in STARTING, SLEWING and REGULATING (R116). -/
def isRunning (st : SpindleState) : Bool :=
  decide (st = .starting) || decide (st = .slewing) || decide (st = .regulating)

/-- The speed loop runs with a waiting group held back in SLEWING and REGULATING (R129). -/
def isLooping (st : SpindleState) : Bool := decide (st = .slewing) || decide (st = .regulating)

/-- The stop timer runs in COASTING, and in BRAKING while magnitude 0 is in force (R121). -/
def Spin.stopRuns (b : Spin) : Bool :=
  decide (b.state = .coasting) || (decide (b.state = .braking) && decide (b.magnitude = 0))

/-- The measured period in units of 8 µs, clamped to 0..65535 (R125). -/
def Spin.value (b : Spin) : Word := BitVec.ofNat 16 (min 65535 (b.pMeas / 8))

/-- The completion value of a spindle command (R125). -/
def Spin.workValue (b : Spin) (k : SpinWork) : Word := if k.isStop then 0 else b.value

/-- The command in flight, if any, ends with a result. -/
def Spin.endWork (r : Result) (w : W Spin) : W Spin :=
  match w.blk.work with
  | none => w
  | some k => (w.put { w.blk with work := none }).complete k.tag k.code r (w.blk.workValue k)

/-- A SPIN CAV or SPIN CLV in flight ends with a result; a SPIN STOP in flight continues. -/
def Spin.endSpin (r : Result) (w : W Spin) : W Spin :=
  match w.blk.work with
  | none => w
  | some k => if k.isStop then w else Spin.endWork r w

/-- An open respin request ends without a report (R128). -/
def Spin.dropRespin (w : W Spin) : W Spin := w.put { w.blk with respin := none }

/-- A change of the angle valid flag since `b0` is reported (R110). -/
def Spin.reportAngle (b0 : Spin) (w : W Spin) : W Spin :=
  if w.blk.angleValid = b0.angleValid then w
  else w.sendAll [.defectNeighbourReport (.angleValid w.blk.angleValid), .holdSourceReport (.angleValid w.blk.angleValid)]

/-! ## Commutation (R111) -/

/-- The pattern and magnitude of the spindle state, before the loading state is looked at (R111). A BRAKING whose brake drive has
ended takes the pattern of SP.BRAKE_MODE as it is at the delivery, where an apply has changed it since the entry (R122, R129; log
64). -/
def Spin.stateDrive (b : Spin) : Pattern × Int :=
  match b.state with
  | .starting => (.forward b.hall, b.params.limit)
  | .slewing | .regulating =>
    if 0 < b.duty then (.forward b.hall, b.duty)
    else if b.duty < 0 then
      if b.params.brakeMode = 1 then (.reverse b.hall, -b.duty) else (.shortBrake, 0)
    else (.coast, 0)
  | .braking =>
    if b.brakeDrive then (.reverse b.hall, b.params.limit)
    else if b.params.brakeMode = 0 then (.shortBrake, 0)
    else (.coast, 0)
  | _ => (.coast, 0)

/-- A forward pattern with a magnitude above 0. -/
def isMotoring (p : Pattern) (m : Int) : Bool :=
  match p with
  | .forward _ => decide (0 < m)
  | _ => false

/-- The pattern and magnitude to deliver: coast in place of a forward drive while the loading state is not LOADED (R111). -/
def Spin.drive (b : Spin) : Pattern × Int :=
  if isMotoring b.stateDrive.1 b.stateDrive.2 && !decide (b.views.loading = .loaded) then (.coast, 0) else b.stateDrive

/-- The pattern and magnitude are delivered and come into force (R111). -/
def Spin.deliver (w : W Spin) : W Spin :=
  (w.put { w.blk with pattern := w.blk.drive.1, magnitude := w.blk.drive.2 }).send
    (.dutyDelivery (.spindle w.blk.drive.1 w.blk.drive.2))

/-! ## Group 3 (R129) -/

/-- Group 3, handed over so many times, is applied: copy, clamp, and I and duty brought within the new limit (R129). -/
def Spin.applyGroup (times : Nat) (img : Memory) (w : W Spin) : W Spin :=
  let p := stagedSpindleParams img
  (w.put { w.blk with params := p.1, awaiting := 0, integ := clampAbs p.1.limit w.blk.integ,
                      duty := clampAbs p.1.limit w.blk.duty }).sendAll (groupReports .spindle p.2 times)

/-- Group 3 is applied where it waits (R129). -/
def Spin.applyWaiting (img : Memory) (w : W Spin) : W Spin :=
  if w.blk.awaiting = 0 then w else Spin.applyGroup w.blk.awaiting img w

/-! ## The end of each event -/

/-- What follows from a change since `b0`, the block before the event: a group that waited is applied when SLEWING or
REGULATING is left (R129), after the new state's entry work and before the delivery (log 48); the pattern is delivered at an
edge and at each change of the state, the duty, the brake drive and the loading view (R111); timers that do not run are
absent, and the stop timer starts when magnitude 0 comes into force, when the brake drive ends, or at an edge (R117, R121,
R122; log 24); a change of the state is reported (R116). -/
def Spin.settle (b0 : Spin) (edge : Bool) (img : Memory) (w0 : W Spin) : W Spin :=
  let w1 := if isLooping b0.state && !isLooping w0.blk.state then Spin.applyWaiting img w0 else w0
  let b1 := w1.blk
  let w2 := w1.put { b1 with brakeDrive := b1.brakeDrive && decide (b1.state = .braking),
                             brakeTimer := if b1.state = .braking then b1.brakeTimer else none,
                             stallTimer := if isRunning b1.state then some (b1.stallTimer.getD 0) else none }
  let b2 := w2.blk
  let w3 :=
    if edge || decide (b2.state ≠ b0.state) || decide (b2.duty ≠ b0.duty) || decide (b2.brakeDrive ≠ b0.brakeDrive)
        || decide (b2.views.loading ≠ b0.views.loading) then Spin.deliver w2
    else w2
  let b3 := w3.blk
  let ended := b0.brakeDrive && !b3.brakeDrive && decide (b3.state = .braking)
  let stop := if b3.stopRuns then (if edge || ended || !b0.stopRuns then some 0 else some (b3.stopTimer.getD 0)) else none
  let w4 := w3.put { b3 with stopTimer := stop }
  if b3.state = b0.state then w4
  else w4.sendAll [.neighbourReport (.spindle b3.state), .loadingViewReport (.spindle b3.state),
                   .recoveryViewReport (.spindle b3.state)]

/-- The Spindle Controller takes event i: its work f, then what follows from it. -/
def State.spinEvent (s : State) (i : Instr) (f : State → W Spin) : State :=
  s.takeSpin i (fun t => Spin.settle t.spin false t.bus.image (f t))

/-- The Spindle Controller answers the offer of command c. -/
def State.spinOffer (s : State) (i : Instr) (c : Posted) (f : Spin → W Spin) : State :=
  s.offerSpin i c (fun t => Spin.settle t.spin false t.bus.image (f t.spin))

/-! ## Changes of state -/

/-- Entry to STARTING (R117). -/
def Spin.enterStarting (b : Spin) : Spin :=
  { b with state := .starting, integ := 0, duty := 0, inRun := 0, outRun := 0, stallTimer := some 0 }

/-- FAULT with steps 1, 2, 3, 5 and 6 of R118. -/
def Spin.enterFault (w : W Spin) : W Spin :=
  let w1 := w.send (.spindleEnableRequest false)
  Spin.dropRespin (Spin.endSpin .interrupted (w1.put { w1.blk with state := .fault, integ := 0, duty := 0 }))

/-- A stall or an overcurrent (R118, R119). -/
def Spin.stall (w : W Spin) : W Spin := Spin.enterFault (w.send (.condition .spindleFault))

/-- Entry to BRAKING (R122). -/
def Spin.enterBraking (b : Spin) : Spin :=
  let rev := decide (b.params.brakeMode = 1)
  { b with state := .braking, stopKind := some .brake, brakeDrive := rev, brakeTimer := if rev then some 0 else none }

/-- A braking stop (R122). -/
def Spin.brakingStop (b0 : Spin) : Spin :=
  let b := { b0 with target := none, integ := 0, duty := 0 }
  match b.state with
  | .stopped => { b with stopKind := none }
  | .fault => { b with state := .coasting, stopKind := some .brake }
  | .braking =>
    if b.views.enable then { b with stopKind := some .brake } else { b with state := .coasting, stopKind := some .brake }
  | _ => if b.views.enable then Spin.enterBraking b else { b with state := .coasting, stopKind := some .brake }

/-- The loading stop (R124). -/
def Spin.loadingStop (w : W Spin) : W Spin := Spin.dropRespin (Spin.endSpin .interrupted (w.upd Spin.brakingStop))

/-- STOPPED is entered (R121). -/
def Spin.enterStopped (w : W Spin) : W Spin :=
  let w1 := w.put { w.blk with state := .stopped, history := [], phase := 0, refTime := none, stopKind := none }
  match w1.blk.work with
  | none => w1
  | some k => if k.isStop then Spin.endWork .ok w1 else w1

/-! ## The speed update (R112 to R115) -/

/-- The CLV track for the next target (R113). -/
def Spin.nextClvTrack (b : Spin) : Nat :=
  match b.seekTarget with
  | some t => t
  | none => if b.views.valid then b.views.counter else b.clvTrack

/-- The CLV period of a track before its clamp (R113). -/
def SpindleParams.clvPeriod (p : SpindleParams) (track : Nat) : Nat :=
  ((p.r0 + (track * p.pitch + 500) / 1000) * p.clvC + 32768) / 65536

/-- P_target is formed (R113). -/
def Spin.formTarget (b : Spin) : Spin :=
  match b.target with
  | none => b
  | some (.cav period) => { b with pTarget := clampNat b.params.pMin b.params.pMax period }
  | some .clv =>
    { b with clvTrack := b.nextClvTrack,
             pTarget := clampNat b.params.pMin b.params.pMax (b.params.clvPeriod b.nextClvTrack) }

/-- The speed loop (R114). -/
def Spin.runLoop (b : Spin) : Spin :=
  let e := clamp (-32768) 32767 ((b.pMeas : Int) - b.pTarget)
  let i := clampAbs b.params.limit (b.integ + roundShift (e * b.params.ki) b.params.shiftI)
  { b with err := e, integ := i, duty := clampAbs b.params.limit (i + roundShift (e * b.params.kp) b.params.shiftP) }

/-- REGULATING is entered: a command or respin request in flight completes or reports (R115, R126, R128). -/
def Spin.enterRegulating (w : W Spin) : W Spin :=
  let w1 := (w.put { w.blk with state := .regulating, inRun := 0, outRun := 0 }).note .regulationEntry
  let w2 :=
    match w1.blk.work with
    | none => w1
    | some k => Spin.endSpin (if k.clamped then .okClamped else .ok) w1
  match w2.blk.respin with
  | none => w2
  | some n => (w2.put { w2.blk with respin := none }).send (.stepReport n .done)

/-- The window runs (R115). -/
def Spin.runWindow (w : W Spin) : W Spin :=
  let b := w.blk
  let win := b.pTarget * b.params.window / 1024
  match b.state with
  | .slewing =>
    if b.err.natAbs ≤ win then
      if 4 ≤ b.inRun + 1 then Spin.enterRegulating w else w.put { b with inRun := b.inRun + 1 }
    else w.put { b with inRun := 0 }
  | .regulating =>
    if 2 * win < b.err.natAbs then
      if 4 ≤ b.outRun + 1 then
        (w.put { b with state := .slewing, inRun := 0, outRun := 0 }).note .regulationExit
      else w.put { b with outRun := b.outRun + 1 }
    else w.put { b with outRun := 0 }
  | _ => w

/-- A speed update (R112). -/
def Spin.speedUpdate (img : Memory) (w0 : W Spin) : W Spin :=
  let w1 := Spin.applyWaiting img w0
  let w2 := (w1.upd (fun b => Spin.formTarget { b with phase := 0, pMeas := 4 * b.history.sum })).note .speedUpdate
  match w2.blk.state with
  | .starting => Spin.runWindow (w2.upd (fun b => { b.runLoop with state := .slewing, inRun := 0, outRun := 0 }))
  | .slewing => Spin.runWindow (w2.upd Spin.runLoop)
  | .regulating => Spin.runWindow (w2.upd Spin.runLoop)
  | _ => w2

/-! ## Hall decoding (R107 to R110, R120) -/

/-- The next Hall state going forward (Table 7-1). -/
def nextHall (h : BitVec 3) : BitVec 3 :=
  match h.toNat with
  | 1 => 3
  | 3 => 2
  | 2 => 6
  | 6 => 4
  | 4 => 5
  | 5 => 1
  | _ => 0

/-- A valid Hall state: not 0, not 7. -/
def isHall (h : BitVec 3) : Bool := decide (h ≠ 0) && decide (h ≠ 7)

/-- How a newly taken Hall state is classed (R107). -/
inductive HallClass where
  | forward | reverse | fault | found | same
deriving DecidableEq, Repr

/-- The class of a change (R107): `found` is a valid state after 0 or 7, `same` a change that is nothing. -/
def classOf (before after : BitVec 3) : HallClass :=
  if before = after then .same
  else if isHall before then
    if !isHall after then .fault
    else if nextHall before = after then .forward
    else if nextHall after = before then .reverse
    else .fault
  else if isHall after then .found
  else .same

/-- The interval of a forward edge at time t is recorded (R109); the update phase is not yet looked at. -/
def Spin.recordInterval (t : Nat) (b : Spin) : Spin :=
  match b.refTime with
  | none => { b with refTime := some t }
  | some r =>
    let v := clampNat 1 1000000 (t - r)
    { b with interval := some v, history := (b.history ++ [v]).drop (b.history.length + 1 - 6), phase := b.phase + 1,
             refTime := some t }

/-- Step 3 of a forward edge: the angle valid flag, and the revolution marker (R110). -/
def Spin.markTurn (b0 : Spin) (w0 : W Spin) : W Spin :=
  let w := Spin.reportAngle b0 w0
  if w.blk.sector = 0 ∧ w.blk.angleValid = true then
    (w.put { w.blk with rev := w.blk.rev + 1 }).sendAll
      [.revolutionMarkerPosition, .revolutionMarkerDefect (w.blk.rev + 1), .revolutionMarkerRecovery (w.blk.rev + 1)]
  else w

/-- Step 5 of an edge: the state rules (R117, R121, R122). -/
def Spin.edgeRules (dir : EdgeDir) (b : Spin) : Spin :=
  match b.state with
  | .stopped => { b with state := .coasting }
  | .braking =>
    match dir with
    | .reverse => { b with brakeDrive := false, brakeTimer := none }
    | .forward => { b with brakeTimer := if b.brakeDrive then some 0 else none }
  | .coasting => b
  | .fault => b
  | _ =>
    match dir with
    | .reverse => Spin.enterStarting b
    | .forward => { b with stallTimer := some 0 }

/-- A forward edge at time t (R107, steps 1 to 5). -/
def Spin.forwardEdge (t : Nat) (img : Memory) (b0 : Spin) (b : Spin) : W Spin :=
  let b1 := { b with edges := (b.edges + 1) % 65520, lastDir := some .forward, edgeTime := t }
  let w := Spin.markTurn b0 (W.start (b1.recordInterval t))
  let w1 := if w.blk.phase = 6 then Spin.speedUpdate img w else w
  w1.upd (Spin.edgeRules .forward)

/-- A reverse edge at time t (R107 to R109). -/
def Spin.reverseEdge (t : Nat) (b : Spin) : W Spin :=
  W.start (Spin.edgeRules .reverse
    { b with edges := (b.edges + 65519) % 65520, lastDir := some .reverse, edgeTime := t, history := [], phase := 0,
             refTime := some t })

/-- The origin is set if the Hall state is valid (R108). -/
def Spin.setOrigin (b : Spin) : Spin :=
  if isHall b.hall then { b with edges := 0, interval := none, origin := true } else b

/-- A Hall fault (R120). In every state it ends an open respin request (R128; log 49). -/
def Spin.hallFault (b0 : Spin) (b : Spin) : W Spin :=
  let w := Spin.reportAngle b0
    (W.start { b with origin := false, interval := none, history := [], phase := 0, refTime := none })
  let w1 := Spin.dropRespin (w.sendAll [.hallFaultNotice, .condition .spindleFault])
  match b.state with
  | .braking => (w1.put { w1.blk with state := .coasting }).send (.spindleEnableRequest false)
  | .stopped => w1.sendIf b.views.enable (.spindleEnableRequest false)
  | .coasting => w1.sendIf b.views.enable (.spindleEnableRequest false)
  | .fault => w1.sendIf b.views.enable (.spindleEnableRequest false)
  | _ => Spin.enterFault w1

/-- A new Hall state is taken, its edge time in µs (R107). -/
def Spin.takeHall (h : BitVec 3) (t : Nat) (img : Memory) (b0 : Spin) : W Spin :=
  let b := { b0 with hall := h }
  match classOf b0.hall h with
  | .forward => Spin.settle b0 true img (Spin.forwardEdge t img b0 b)
  | .reverse => Spin.settle b0 true img (Spin.reverseEdge t b)
  | .fault => Spin.settle b0 false img (Spin.hallFault b0 b)
  | .found =>
    if b.views.loading = .loaded then Spin.reportAngle b0 (W.start b.setOrigin) else W.start b
  | .same => W.start b

/-- The microsecond count has reached the edge (R107, log 7). -/
def State.advanceClock (s : State) (t : Nat) : State := if s.held then s else { s with clock := max s.clock t }

/-- The state after a Hall state is taken. -/
def State.hallStep (s : State) (h : BitVec 3) (t : Nat) : State :=
  (s.advanceClock t).takeSpin (.hallStateTaken h t) (fun u => Spin.takeHall h t u.bus.image u.spin)

/-- HALL_STATE_TAKEN. -/
def execHallStateTaken (hall : BitVec 3) (t : Nat) (s : State) : Host.Outcome State Fault Refusal :=
  .next (s.hallStep hall t)

/-- SPEED_UPDATE (R112). -/
def execSpeedUpdate (hall : BitVec 3) (t : Nat) (s : State) : Host.Outcome State Fault Refusal :=
  .next (within .speedUpdate (s.hallStep hall t) s)

/-- REGULATION_ENTRY (R115). -/
def execRegulationEntry (hall : BitVec 3) (t : Nat) (s : State) : Host.Outcome State Fault Refusal :=
  .next (within .regulationEntry (s.hallStep hall t) s)

/-- REGULATION_EXIT (R115). -/
def execRegulationExit (hall : BitVec 3) (t : Nat) (s : State) : Host.Outcome State Fault Refusal :=
  .next (within .regulationExit (s.hallStep hall t) s)

/-! ## The set (R117, R119, R121, R122, R126) -/

/-- The overcurrent test of a set (R119). -/
def Spin.overcurrent (sc : Int) (w : W Spin) : W Spin :=
  let b := w.blk
  if isRunning b.state && isMotoring b.pattern b.magnitude && decide ((b.params.ocLimit : Int) < sc) then Spin.stall w
  else w

/-- The stall timer at a set (R117). With SP.LIMIT 0 the drive of STARTING is not positive, nor is its duty above 0; STARTING stalls
then too (log 63). -/
def Spin.stallSet (w : W Spin) : W Spin :=
  let b := w.blk
  match b.stallTimer with
  | none => w
  | some n =>
    if !isRunning b.state then w
    else if n + 1 < msSets 500 then w.put { b with stallTimer := some (n + 1) }
    else if decide (b.state = .starting) || decide (0 < b.duty) then (Spin.stall w).note .stallTimerExpiry
    else (w.put b.enterStarting).note .stallTimerExpiry

/-- The stop timer at a set (R121). -/
def Spin.stopSet (w : W Spin) : W Spin :=
  let b := w.blk
  match b.stopTimer with
  | none => w
  | some n =>
    if n + 1 < msSets 200 then w.put { b with stopTimer := some (n + 1) }
    else (Spin.enterStopped w).note .stopTimerExpiry

/-- The brake timer at a set (R122). -/
def Spin.brakeSet (w : W Spin) : W Spin :=
  let b := w.blk
  match b.brakeTimer with
  | none => w
  | some n =>
    if n + 1 < msSets 50 then w.put { b with brakeTimer := some (n + 1) }
    else (w.put { b with brakeDrive := false, brakeTimer := none }).note .brakeTimerExpiry

/-- The Hall state and the edge time of a row at which an edge may enter REGULATING. -/
def hallTaken : Instr → Option (BitVec 3 × Nat)
  | .hallStateTaken h t => some (h, t)
  | .speedUpdate h t => some (h, t)
  | .regulationEntry h t => some (h, t)
  | _ => none

/-- The Hall states that have reached the Spindle Controller together with a set: they wait in the queue, and their edges came
no later than the latest sample instant (R107; log 50). -/
def State.hallTogether (s : State) : List (BitVec 3 × Nat) :=
  (s.pending.filterMap hallTaken).filter (fun e => decide (e.2 ≤ s.instant))

/-- One of these Hall states, taken in turn, enters REGULATING (R115). -/
def Spin.regulatesBy (img : Memory) : List (BitVec 3 × Nat) → Spin → Bool
  | [], _ => false
  | (h, t) :: es, b =>
    (Spin.takeHall h t img b).subs.contains .regulationEntry
      || Spin.regulatesBy img es (Spin.takeHall h t img b).blk

/-- The timer of a SPIN CAV or SPIN CLV in flight at a set (R126). Where the update that enters REGULATING comes together with the
set at which the timer expires, the command is left to that update, which completes it (R107, R126; log 50). -/
def Spin.workSet (img : Memory) (halls : List (BitVec 3 × Nat)) (w : W Spin) : W Spin :=
  let b := w.blk
  match b.work with
  | none => w
  | some k =>
    if k.isStop then w
    else if k.timer + 1 < msSets 3000 then w.put { b with work := some { k with timer := k.timer + 1 } }
    else if Spin.regulatesBy img halls b then w
    else (Spin.endWork .timeout w).note .spinCommandTimeout

/-- The Spindle Controller takes a set; a fault of the set comes before the timer of the command in flight (log 51). -/
def Spin.takeSet (sc : Int) (img : Memory) (halls : List (BitVec 3 × Nat)) (b : Spin) : W Spin :=
  Spin.workSet img halls (Spin.brakeSet (Spin.stopSet (Spin.stallSet (Spin.overcurrent sc (W.start b)))))

/-- The state after the Spindle Controller takes a set. -/
def State.spindleSet (s : State) (x : SampleSet) : State :=
  s.spinEvent (.spindleSet x) (fun t => Spin.takeSet x.sc t.bus.image t.hallTogether t.spin)

/-- SPINDLE_SET. -/
def execSpindleSet (x : SampleSet) (s : State) : Host.Outcome State Fault Refusal := .next (s.spindleSet x)

/-- STALL_TIMER_EXPIRY (R117). -/
def execStallTimerExpiry (x : SampleSet) (s : State) : Host.Outcome State Fault Refusal :=
  .next (within .stallTimerExpiry (s.spindleSet x) s)

/-- STOP_TIMER_EXPIRY (R121). -/
def execStopTimerExpiry (x : SampleSet) (s : State) : Host.Outcome State Fault Refusal :=
  .next (within .stopTimerExpiry (s.spindleSet x) s)

/-- BRAKE_TIMER_EXPIRY (R122). -/
def execBrakeTimerExpiry (x : SampleSet) (s : State) : Host.Outcome State Fault Refusal :=
  .next (within .brakeTimerExpiry (s.spindleSet x) s)

/-- SPIN_COMMAND_TIMEOUT (R126). -/
def execSpinCommandTimeout (x : SampleSet) (s : State) : Host.Outcome State Fault Refusal :=
  .next (within .spinCommandTimeout (s.spindleSet x) s)

/-! ## Reports and requests taken -/

/-- A supply report (R123). -/
def Spin.takeSupply (st : SupplyState) (b0 : Spin) : W Spin :=
  let b := { b0 with views := { b0.views with supply := some st } }
  match st with
  | .ok =>
    if b.state = .coasting ∧ b.target.isSome = true ∧ b.views.loading = .loaded then
      (W.start b.enterStarting).sendIf (!b.views.enable) (.spindleEnableRequest true)
    else if b.state = .coasting ∧ b.stopKind = some .brake then
      (W.start b.enterBraking).sendIf (!b.views.enable) (.spindleEnableRequest true)
    else W.start b
  | _ =>
    let b1 := { b with integ := 0, duty := 0 }
    if isRunning b.state || decide (b.state = .braking) then W.start { b1 with state := .coasting } else W.start b1

/-- SUPPLY_STATE_REPORT. -/
def execSupplyStateReport (st : SupplyState) (s : State) : Host.Outcome State Fault Refusal :=
  .next (s.spinEvent (.supplyStateReport st) (fun t => Spin.takeSupply st t.spin))

/-- A loading report (R108, R124). -/
def Spin.takeLoading (st : LoadingState) (b0 : Spin) : W Spin :=
  let b := { b0 with views := { b0.views with loading := st } }
  match st with
  | .loaded => Spin.reportAngle b0 (W.start b.setOrigin)
  | _ => if b.target.isSome then Spin.loadingStop (W.start b) else W.start b

/-- LOADING_STATE_REPORT. -/
def execLoadingStateReport (st : LoadingState) (s : State) : Host.Outcome State Fault Refusal :=
  .next (s.spinEvent (.loadingStateReport st) (fun t => Spin.takeLoading st t.spin))

/-- LOADING_STOP_REQUEST (R124). -/
def execLoadingStopRequest (s : State) : Host.Outcome State Fault Refusal :=
  .next (s.spinEvent .loadingStopRequest (fun t => Spin.loadingStop (W.start t.spin)))

/-- UNLOAD_NOTICE_SPINDLE (R108, R110). -/
def execUnloadNoticeSpindle (s : State) : Host.Outcome State Fault Refusal :=
  .next (s.spinEvent .unloadNoticeSpindle (fun t =>
    Spin.reportAngle t.spin (W.start { t.spin with origin := false, interval := none })))

/-- SPINDLE_ENABLE_REPORT (R173). -/
def execSpindleEnableReport (on : Bool) (s : State) : Host.Outcome State Fault Refusal :=
  .next (s.spinEvent (.spindleEnableReport on) (fun t =>
    W.start { t.spin with views := { t.spin.views with enable := on } }))

/-- SEEK_TARGET_SEND (R113). -/
def execSeekTargetSend (target : Option Nat) (s : State) : Host.Outcome State Fault Refusal :=
  .next (s.spinEvent (.seekTargetSend target) (fun t => W.start { t.spin with seekTarget := target }))

/-- TRACK_COUNTER_REPORT (R113). -/
def execTrackCounterReport (value : Nat) (valid : Bool) (s : State) : Host.Outcome State Fault Refusal :=
  .next (s.spinEvent (.trackCounterReport value valid) (fun t =>
    W.start { t.spin with views := { t.spin.views with counter := value, valid := valid } }))

/-! ## Commands (R125 to R128) -/

/-- The state change of a taken run target (R126, step 4). -/
def Spin.retake (w : W Spin) : W Spin :=
  let b := w.blk
  match b.state with
  | .slewing => w.put { b with inRun := 0, outRun := 0 }
  | .regulating => w.put { b with state := .slewing, inRun := 0, outRun := 0 }
  | .starting => w
  | _ =>
    if b.views.supply = some .ok then (w.put b.enterStarting).send (.spindleEnableRequest true)
    else w.put { b with state := .coasting }

/-- SPIN CAV or SPIN CLV is offered (R126). -/
def Spin.spinCommand (c : Posted) (target : RunTarget) (clamped : Bool) (b : Spin) : W Spin :=
  if b.views.loading ≠ .loaded then (W.start b).refuse .noDisc b.value
  else if !isHall b.hall then (W.start b).refuse .notReady b.value
  else
    let w := Spin.endWork .superseded (W.start b)
    Spin.retake
      (w.put { w.blk with target := some target, stopKind := none,
                          work := some { tag := c.tag, code := c.code, isStop := false, clamped := clamped, timer := 0 } })

/-- The clamped period of a SPIN CAV (R126). -/
def Spin.cavPeriod (c : Posted) (b : Spin) : Nat := clampNat b.params.pMin b.params.pMax (arg32 c)

/-- SPIN_CAV. -/
def execSpinCav (c : Posted) (s : State) : Host.Outcome State Fault Refusal :=
  .next (s.spinOffer (.spinCav c) c (fun b =>
    Spin.spinCommand c (.cav (b.cavPeriod c)) (decide (b.cavPeriod c ≠ arg32 c)) b))

/-- SPIN_CLV. -/
def execSpinClv (c : Posted) (s : State) : Host.Outcome State Fault Refusal :=
  .next (s.spinOffer (.spinClv c) c (fun b => Spin.spinCommand c .clv false b))

/-- Stopping in coast mode (R127). -/
def Spin.coastStop (b : Spin) : Spin :=
  let b1 := { b with target := none, integ := 0, duty := 0, stopKind := some .coast }
  match b.state with
  | .stopped => b1
  | _ => { b1 with state := .coasting, stopTimer := some 0 }

/-- SPIN STOP is offered (R127). -/
def Spin.spinStop (c : Posted) (b : Spin) : W Spin :=
  if 1 < c.option.toNat then (W.start b).refuse .badArgument 0
  else
    let w := Spin.dropRespin (Spin.endWork .superseded (W.start b))
    let w1 := w.upd (if c.option = 1 then Spin.brakingStop else Spin.coastStop)
    if b.state = .stopped then w1.complete c.tag c.code .ok 0
    else
      w1.put { w1.blk with
        work := some { tag := c.tag, code := c.code, isStop := true, clamped := false, timer := 0 } }

/-- SPIN_STOP. -/
def execSpinStop (c : Posted) (s : State) : Host.Outcome State Fault Refusal :=
  .next (s.spinOffer (.spinStop c) c (Spin.spinStop c))

/-- The respin request (R128). -/
def Spin.respinRequest (n : BitVec 8) (b : Spin) : W Spin :=
  let w := Spin.dropRespin (W.start b)
  if b.views.loading ≠ .loaded ∨ isHall b.hall = false then w.send (.stepReport n .failed)
  else if b.target.isNone ∨ b.state = .regulating then w.send (.stepReport n .done)
  else Spin.retake (w.put { w.blk with respin := some n, stopKind := none })

/-- RESPIN_REQUEST. -/
def execRespinRequest (n : BitVec 8) (s : State) : Host.Outcome State Fault Refusal :=
  .next (s.spinEvent (.respinRequest n) (fun t => Spin.respinRequest n t.spin))

/-! ## Group 3 and RESET SERVO -/

/-- SPINDLE_GROUP_APPLY (R129): it waits while the spindle is SLEWING or REGULATING. -/
def execSpindleGroupApply (s : State) : Host.Outcome State Fault Refusal :=
  .next (s.spinEvent .spindleGroupApply (fun t =>
    if isLooping t.spin.state then W.start { t.spin with awaiting := t.spin.awaiting + 1 }
    else Spin.applyGroup (t.spin.awaiting + 1) t.bus.image (W.start t.spin)))

/-- The Spindle Controller takes RESET SERVO (R130). -/
def Spin.resetServo (b : Spin) : W Spin :=
  let w := Spin.dropRespin (Spin.endWork .interrupted (W.start b))
  w.upd (fun b => { Spin.brakingStop b with inRun := 0, outRun := 0, stallTimer := none, seekTarget := none })

/-- RESET_SERVO_SPINDLE. -/
def execResetServoSpindle (s : State) : Host.Outcome State Fault Refusal :=
  .next (s.spinEvent .resetServoSpindle (fun t => Spin.resetServo t.spin))

end Sys2Proof.Machine
end

