-- ==== Sys2Proof/Machine/Outputs.lean ====
section
/-! DEFINITION. Drive Output Unit (spec/10, R169 to R173): carriers, compensation, signals, dead time, the output enables. -/

namespace Sys2Proof.Machine

open Sys2Proof

/-! ## Compensation (R170) -/

/-- Vm (R170), with V.LOW as the latest refresh found it: a new V.LOW is used from the next refresh (R178, log 56). -/
def Drive.vm (b : Drive) : Int := max b.sp b.lowUsed

/-- A value scaled by V.NOMINAL over Vm (R170), before its clamp. -/
def Drive.scale (b : Drive) (v : Int) : Int :=
  if b.params.comp = 1 then (v * b.params.nominal + b.vm / 2) / b.vm else v

/-- A compensated actuator duty (R170). -/
def Drive.duty (b : Drive) (v : Int) : Int := clampAbs 1023 (b.scale v)

/-- A compensated spindle magnitude (R170). -/
def Drive.magnitude (b : Drive) (m : Int) : Int := clamp 0 1023 (b.scale m)

/-! ## Signals of an H-bridge channel (R171) -/

/-- Counts of one carrier period (R169). -/
def period : Nat := 2048

/-- The window of a signal active for 2·m counts centred on the carrier's peak; none for m = 0 (R171, R172). -/
def centred (m : Nat) : Option (Nat × Nat) := if m = 0 then none else some (1024 - m, 1024 + m)

/-- Active windows of the forward and reverse signals of an H-bridge channel (R171). -/
def Bridge.windows (b : Bridge) : Option (Nat × Nat) × Option (Nat × Nat) :=
  match b.applied with
  | some d => (if 0 < d then centred d.natAbs else none, if d < 0 then centred d.natAbs else none)
  | none => if b.short then (some (0, period), some (0, period)) else (none, none)

/-- A signal with this window is active at this count of the period. -/
def activeAt (w : Option (Nat × Nat)) (count : Nat) : Bool :=
  match w with
  | none => false
  | some (lo, hi) => decide (lo ≤ count) && decide (count < hi)

/-- The levels of the forward and reverse pins at a count of the period: active is high, unless the channel is inverted (R171). -/
def Bridge.levels (b : Bridge) (count : Nat) : Bool × Bool :=
  (xor (activeAt b.windows.1 count) b.invert, xor (activeAt b.windows.2 count) b.invert)

/-! ## Signals of the SPINDLE channel (R172) -/

/-- The three phases. -/
inductive PhaseName where
  | u | v | w
deriving DecidableEq, Repr

/-- High and low phase of a forward pattern for a Hall state; the reverse pattern has them exchanged (Table 7-2). A Hall state
of 0 or 7 has no row: nothing conducts (log 28). -/
def commutation (h : BitVec 3) : Option (PhaseName × PhaseName) :=
  match h.toNat with
  | 1 => some (.u, .v)
  | 3 => some (.u, .w)
  | 2 => some (.v, .w)
  | 6 => some (.v, .u)
  | 4 => some (.w, .u)
  | 5 => some (.w, .v)
  | _ => none

/-- High and low phase of a pattern that drives. -/
def Pattern.phases (p : Pattern) : Option (PhaseName × PhaseName) :=
  match p with
  | .forward h => commutation h
  | .reverse h => (commutation h).map (fun q => (q.2, q.1))
  | _ => none

/-- Windows of the high and low signal of one phase before dead time (R172). -/
def dueWindows (applied : Option (Pattern × Int)) (ph : PhaseName) : Option (Nat × Nat) × Option (Nat × Nat) :=
  match applied with
  | none => (none, none)
  | some (.shortBrake, _) => (none, some (0, period))
  | some (p, m) =>
    match Pattern.phases p with
    | none => (none, none)
    | some (hi, lo) => (if hi = ph then centred m.natAbs else none, if lo = ph then centred m.natAbs else none)

/-- A window delayed until `dead` counts have passed since the other signal became inactive, `off` counts before the underflow
(R172). -/
def delayed (dead off : Nat) (w : Option (Nat × Nat)) : Option (Nat × Nat) :=
  match w with
  | none => none
  | some (lo, hi) => if hi ≤ max lo (dead - off) then none else some (max lo (dead - off), hi)

/-- Counts from the moment a signal becomes inactive to the end of a period with this window; `off` where it stays inactive. -/
def offAfter (off : Nat) (w : Option (Nat × Nat)) : Nat :=
  match w with
  | none => min 4096 (off + period)
  | some (_, hi) => period - hi

/-- One phase at an underflow: the new windows with dead time, and the counts to the next underflow (R172). -/
def PhaseSignals.next (p : PhaseSignals) (dead : Nat) (due : Option (Nat × Nat) × Option (Nat × Nat)) : PhaseSignals :=
  let h := delayed dead p.lowOff due.1
  let l := delayed dead p.highOff due.2
  { high := h, low := l, highOff := offAfter p.highOff h, lowOff := offAfter p.lowOff l }

/-- Counts from the moment a signal with this window became inactive to the next underflow, where the enable is cleared at count
`moment` of the period: a window that has ended by then ended by itself, one not yet begun never begins (R171, R172). `off` is
the count of a signal without a window. -/
def offWhenCleared (moment off : Nat) (w : Option (Nat × Nat)) : Nat :=
  match w with
  | none => off
  | some (lo, hi) => if moment ≤ lo then period else period - min moment hi

/-- One phase when the enable is cleared at count `moment` of the period (R171): both signals are inactive at once. -/
def PhaseSignals.idle (moment : Nat) (p : PhaseSignals) : PhaseSignals :=
  { high := none, low := none, highOff := offWhenCleared moment p.highOff p.high,
    lowOff := offWhenCleared moment p.lowOff p.low }

/-- The levels of the high and low pin of a phase at a count (R171, R172). -/
def PhaseSignals.levels (p : PhaseSignals) (invert : Bool) (count : Nat) : Bool × Bool :=
  (xor (activeAt p.high count) invert, xor (activeAt p.low count) invert)

/-! ## Underflows (R169) -/

/-- Bit n of a parameter word. -/
def paramBit (v n : Nat) : Bool := v.testBit n

/-- An H-bridge channel at its underflow; n is its bit in O.IDLE and O.INVERT (R169, R171, R178). -/
def Drive.bridgeUnderflow (b : Drive) (n : Nat) (c : Bridge) : Bridge :=
  { c with applied := if b.actuatorEnable then some (b.duty c.buffered) else none, short := paramBit b.params.idle n,
           invert := paramBit b.params.invert n }

/-- The SPINDLE channel at its underflow (R169, R172). -/
def Drive.spindleUnderflow (b : Drive) (dead : Nat) : SpinDrive :=
  let c := b.spindle
  let ap := if b.spindleEnable then some (c.pattern, b.magnitude c.magnitude) else none
  { c with applied := ap, invert := paramBit b.params.invert 4, u := c.u.next dead (dueWindows ap .u),
           v := c.v.next dead (dueWindows ap .v), w := c.w.next dead (dueWindows ap .w) }

/-- A channel's underflow (R169). -/
def Drive.underflow (ch : Channel) (dead : Nat) (b : Drive) : Drive :=
  match ch with
  | .focus => { b with focus := b.bridgeUnderflow 0 b.focus }
  | .track => { b with track := b.bridgeUnderflow 1 b.track }
  | .sled => { b with sled := b.bridgeUnderflow 2 b.sled }
  | .load => { b with load := b.bridgeUnderflow 3 b.load }
  | .spindle => { b with spindle := b.spindleUnderflow dead }

/-- CARRIER_UNDERFLOW (R169 to R172). SP.DEADTIME is the value given at the apply of group 3 (R129). -/
def execCarrierUnderflow (ch : Channel) (s : State) : Host.Outcome State Fault Refusal :=
  .next (s.takeDrive (.carrierUnderflow ch) (fun t => W.start (t.drive.underflow ch t.spin.params.deadtime)))

/-! ## Deliveries (R169) -/

/-- A delivery replaces the channel's buffered value. -/
def Drive.receive (d : Delivery) (b : Drive) : Drive :=
  match d with
  | .focus v => { b with focus := { b.focus with buffered := v } }
  | .track v => { b with track := { b.track with buffered := v } }
  | .sled v => { b with sled := { b.sled with buffered := v } }
  | .load v => { b with load := { b.load with buffered := v } }
  | .spindle p m => { b with spindle := { b.spindle with pattern := p, magnitude := m } }

/-- DUTY_DELIVERY (R169). -/
def execDutyDelivery (d : Delivery) (s : State) : Host.Outcome State Fault Refusal :=
  .next (s.takeDrive (.dutyDelivery d) (fun t => W.start (t.drive.receive d)))

/-! ## Output enables (R171, R173) -/

/-- A bridge goes to its idle level at once (R171). -/
def Bridge.toIdle (c : Bridge) : Bridge := { c with applied := none }

/-- The spindle output enable is cleared at count `moment` of the carrier period: idle at once (R171). -/
def Drive.clearSpindle (moment : Nat) (b : Drive) : Drive :=
  { b with spindleEnable := false,
           spindle := { b.spindle with applied := none, u := b.spindle.u.idle moment, v := b.spindle.v.idle moment,
                                       w := b.spindle.w.idle moment } }

/-- The actuator output enable is cleared: its four channels are idle at once (R171). -/
def Drive.clearActuators (b : Drive) : Drive :=
  { b with actuatorEnable := false, focus := b.focus.toIdle, track := b.track.toIdle, sled := b.sled.toIdle,
           load := b.load.toIdle }

/-- A request for the spindle output enable (R173). -/
def Drive.enableRequest (moment : Nat) (on : Bool) (b : Drive) : Drive :=
  if on then (if b.supply = some .ok then { b with spindleEnable := true } else b)
  else if b.spindleEnable then b.clearSpindle moment
  else b

/-- The Drive Output Unit takes event i, which may clear the spindle output enable. No event carries the count of the carrier
period at which that falls: it is a free value, used up by a clear (log 20). -/
def State.driveEvent (s : State) (i : Instr) (f : Nat → Drive → W Drive) : State :=
  let t := s.takeDrive i (fun u => f (Config.clearMoment s.freeCount % period) u.drive)
  if s.drive.spindleEnable && !t.drive.spindleEnable then t.useFree else t

/-- A request is taken, and the enable reported (R173). -/
def Drive.takeRequest (on : Bool) (moment : Nat) (b : Drive) : W Drive :=
  (W.start (b.enableRequest moment on)).send (.spindleEnableReport (b.enableRequest moment on).spindleEnable)

/-- SPINDLE_ENABLE_REQUEST (R173): after every request the enable is reported. -/
def execSpindleEnableRequest (on : Bool) (s : State) : Host.Outcome State Fault Refusal :=
  .next (s.driveEvent (.spindleEnableRequest on) (Drive.takeRequest on))

/-- RESET_SERVO_OUTPUTS: everything is kept (R179). -/
def execResetServoOutputs (s : State) : Host.Outcome State Fault Refusal :=
  .next (s.takeDrive .resetServoOutputs (fun t => W.start t.drive))

end Sys2Proof.Machine
end

