-- ==== Sys2Proof/Machine/Supply.lean ====
section
/-! DEFINITION. Supply Monitor (spec/10, R174 to R178). -/

namespace Sys2Proof.Machine

open Sys2Proof

/-- The supply state is set and reported to the Spindle and Recovery Controllers (R175 to R177). -/
def Drive.setSupply (st : SupplyState) (w : W Drive) : W Drive :=
  (w.put { w.blk with supply := some st }).sendAll [.supplyStateReport st, .recoveryViewReport (.supply st)]

/-- The actuator output enable is set; a change is reported to the Loading Controller (R173). -/
def Drive.setActuators (w : W Drive) : W Drive :=
  if w.blk.actuatorEnable then w
  else (w.put { w.blk with actuatorEnable := true }).send (.loadingViewReport (.actuatorEnable true))

/-- The first evaluation (R175). -/
def Drive.firstEvaluation (w : W Drive) : W Drive :=
  if (w.blk.params.restore : Int) ≤ w.blk.sp then
    Drive.setSupply .ok ((Drive.setActuators w).send (.noticeRaise .supply))
  else Drive.setSupply .low (w.send (.noticeRaise .supply))

/-- Entry to DIP (R176), at count `moment` of the carrier period. -/
def Drive.enterDip (moment : Nat) (w : W Drive) : W Drive :=
  let w1 := (w.put { w.blk.clearSpindle moment with ride := some 0 }).sendAll [.spindleEnableReport false, .noticeRaise .supply]
  Drive.setSupply .dip w1

/-- Entry to LOW, from DIP (R176). -/
def Drive.enterLow (w : W Drive) : W Drive :=
  let w1 := (w.put { w.blk.clearActuators with ride := none }).sendAll
    [.loadingViewReport (.actuatorEnable false), .holdSourceRequest .both .supply true, .condition .supplyLow]
  Drive.setSupply .low w1

/-- The restore timer is started where it does not run (R176). -/
def Drive.startRestore (b : Drive) : Drive := { b with restore := some (b.restore.getD 0) }

/-- A refresh after the first evaluation (R176). -/
def Drive.evaluate (moment : Nat) (w : W Drive) : W Drive :=
  let b := w.blk
  let below (v : Nat) : Bool := decide (b.sp < (v : Int))
  match b.supply with
  | none => Drive.firstEvaluation w
  | some .ok =>
    if below b.params.low then Drive.enterLow (Drive.enterDip moment w)
    else if below b.params.dip then Drive.enterDip moment w
    else w
  | some .dip =>
    if below b.params.low then (Drive.enterLow w).upd (fun b => { b with restore := none })
    else if below b.params.restore then w.put { b with restore := none }
    else w.put b.startRestore
  | some .low => if below b.params.restore then w.put { b with restore := none } else w.put b.startRestore

/-- The return to OK (R177). -/
def Drive.returnOk (w : W Drive) : W Drive :=
  let w1 := Drive.setActuators (w.put { w.blk with ride := none, restore := none })
  (Drive.setSupply .ok (w1.send (.noticeRaise .supply))).note .restoreTimerExpiry

/-- A timer has reached n milliseconds. -/
def timerAt (t : Option Nat) (n : Nat) : Bool :=
  match t with
  | none => false
  | some k => decide (msSets n ≤ k)

/-- The two timers act at the set at which they expire; the return to OK first (R177). -/
def Drive.expire (w : W Drive) : W Drive :=
  let b := w.blk
  if timerAt b.restore b.params.restoreTime then Drive.returnOk w
  else if timerAt b.ride b.params.ride then (Drive.enterLow w).note .rideTimerExpiry
  else w

/-- The Supply Monitor takes a set: its timers are counted, a refresh is evaluated and puts SP and V.LOW in force, expired
timers act (R174, R178; logs 21, 56). -/
def Drive.takeSet (x : SampleSet) (moment : Nat) (b : Drive) : W Drive :=
  let b1 := { b with ride := b.ride.map (· + 1), restore := b.restore.map (· + 1) }
  let w :=
    match x.refresh with
    | none => W.start b1
    | some r => Drive.evaluate moment (W.start { b1 with sp := r.sp, lowUsed := b1.params.low })
  Drive.expire w

/-- The state after the Supply Monitor takes a set. -/
def State.supplySet (s : State) (x : SampleSet) : State :=
  s.driveEvent (.supplySet x) (Drive.takeSet x)

/-- SUPPLY_SET. -/
def execSupplySet (x : SampleSet) (s : State) : Host.Outcome State Fault Refusal := .next (s.supplySet x)

/-- RIDE_TIMER_EXPIRY (R177). -/
def execRideTimerExpiry (x : SampleSet) (s : State) : Host.Outcome State Fault Refusal :=
  .next (within .rideTimerExpiry (s.supplySet x) s)

/-- RESTORE_TIMER_EXPIRY (R177). -/
def execRestoreTimerExpiry (x : SampleSet) (s : State) : Host.Outcome State Fault Refusal :=
  .next (within .restoreTimerExpiry (s.supplySet x) s)

/-- SUPPLY_GROUP_APPLY (R178). -/
def execSupplyGroupApply (s : State) : Host.Outcome State Fault Refusal :=
  .next (s.takeDrive .supplyGroupApply (fun t =>
    let p := stagedSupplyParams t.bus.image
    (W.start { t.drive with params := p.1 }).send (.groupAppliedReport .supply p.2)))

end Sys2Proof.Machine
end

