-- ==== Sys2Proof/Machine/Dispatch.lean ====
section
/-! DEFINITION. exec: one arm for each constructor of Instr. -/

namespace Sys2Proof.Machine

open Sys2Proof

/-- The effect of a command on everything but the queue. -/
def exec (i : Instr) (s : State) : Host.Outcome State Fault Refusal :=
  match i with
  | .powerOnReset => Sys2Proof.Machine.execPowerOnReset s
  | .resetAssert => Sys2Proof.Machine.execResetAssert s
  | .resetRelease area hall => Sys2Proof.Machine.execResetRelease area hall s
  | .sampleSet raw => Sys2Proof.Machine.execSampleSet raw s
  | .calibrationComplete raw => Sys2Proof.Machine.execCalibrationComplete raw s
  | .laserOn c => Sys2Proof.Machine.execLaserOn c s
  | .laserOff c => Sys2Proof.Machine.execLaserOff c s
  | .calibrateOffsets c => Sys2Proof.Machine.execCalibrateOffsets c s
  | .laserRequest on => Sys2Proof.Machine.execLaserRequest on s
  | .positionLeavesIdle => Sys2Proof.Machine.execPositionLeavesIdle s
  | .resetServoFrontEnd => Sys2Proof.Machine.execResetServoFrontEnd s
  | .loopSampleSet x => Sys2Proof.Machine.execLoopSampleSet x s
  | .holdTimeout x => Sys2Proof.Machine.execHoldTimeout x s
  | .limitRun x => Sys2Proof.Machine.execLimitRun x s
  | .sledUpdate x => Sys2Proof.Machine.execSledUpdate x s
  | .positionRequest loop req => Sys2Proof.Machine.execPositionRequest loop req s
  | .holdSourceRequest loops src on => Sys2Proof.Machine.execHoldSourceRequest loops src on s
  | .gainSetRequest loops set => Sys2Proof.Machine.execGainSetRequest loops set s
  | .feedForwardValue loop v => Sys2Proof.Machine.execFeedForwardValue loop v s
  | .sledRequest req => Sys2Proof.Machine.execSledRequest req s
  | .sledHomeAsserted => Sys2Proof.Machine.execSledHomeAsserted s
  | .loopGroupApply g => Sys2Proof.Machine.execLoopGroupApply g s
  | .temperatureGroupApply => Sys2Proof.Machine.execTemperatureGroupApply s
  | .resetServoLoop => Sys2Proof.Machine.execResetServoLoop s
  | .positionSet x => Sys2Proof.Machine.execPositionSet x s
  | .focusLock x => Sys2Proof.Machine.execFocusLock x s
  | .focusClosureAbandoned x => Sys2Proof.Machine.execFocusClosureAbandoned x s
  | .focusLost x => Sys2Proof.Machine.execFocusLost x s
  | .trackingClose x => Sys2Proof.Machine.execTrackingClose x s
  | .trackingLock x => Sys2Proof.Machine.execTrackingLock x s
  | .pullInTimeout x => Sys2Proof.Machine.execPullInTimeout x s
  | .parkTimeout x => Sys2Proof.Machine.execParkTimeout x s
  | .kickEnd x => Sys2Proof.Machine.execKickEnd x s
  | .jumpBrakeEnd x => Sys2Proof.Machine.execJumpBrakeEnd x s
  | .jumpTimerExpiry x => Sys2Proof.Machine.execJumpTimerExpiry x s
  | .catchLock x => Sys2Proof.Machine.execCatchLock x s
  | .catchTimeout x => Sys2Proof.Machine.execCatchTimeout x s
  | .settleComplete x => Sys2Proof.Machine.execSettleComplete x s
  | .sledBrakeEnd x => Sys2Proof.Machine.execSledBrakeEnd x s
  | .seekTimeout x => Sys2Proof.Machine.execSeekTimeout x s
  | .revolutionMarkerPosition => Sys2Proof.Machine.execRevolutionMarkerPosition s
  | .loopStateReport rep => Sys2Proof.Machine.execLoopStateReport rep s
  | .trackingOffNotice => Sys2Proof.Machine.execTrackingOffNotice s
  | .neighbourReport rep => Sys2Proof.Machine.execNeighbourReport rep s
  | .recoveryAbort => Sys2Proof.Machine.execRecoveryAbort s
  | .recoverySearch n => Sys2Proof.Machine.execRecoverySearch n s
  | .recoveryPullIn n => Sys2Proof.Machine.execRecoveryPullIn n s
  | .recoveryRelease => Sys2Proof.Machine.execRecoveryRelease s
  | .recoverySeek n target => Sys2Proof.Machine.execRecoverySeek n target s
  | .referenceWaitReport waiting => Sys2Proof.Machine.execReferenceWaitReport waiting s
  | .loadingParkRequest => Sys2Proof.Machine.execLoadingParkRequest s
  | .unloadNoticePosition => Sys2Proof.Machine.execUnloadNoticePosition s
  | .focusOn c => Sys2Proof.Machine.execFocusOn c s
  | .focusOff c => Sys2Proof.Machine.execFocusOff c s
  | .trackOn c => Sys2Proof.Machine.execTrackOn c s
  | .trackOff c => Sys2Proof.Machine.execTrackOff c s
  | .park c => Sys2Proof.Machine.execPark c s
  | .stop c => Sys2Proof.Machine.execStop c s
  | .jump c => Sys2Proof.Machine.execJump c s
  | .seek c => Sys2Proof.Machine.execSeek c s
  | .setTrackReference c => Sys2Proof.Machine.execSetTrackReference c s
  | .resetServoPosition => Sys2Proof.Machine.execResetServoPosition s
  | .positionGroupApply => Sys2Proof.Machine.execPositionGroupApply s
  | .defectSet x => Sys2Proof.Machine.execDefectSet x s
  | .defectOpen x => Sys2Proof.Machine.execDefectOpen x s
  | .defectClose x => Sys2Proof.Machine.execDefectClose x s
  | .freezeEnd x => Sys2Proof.Machine.execFreezeEnd x s
  | .focusInReport => Sys2Proof.Machine.execFocusInReport s
  | .focusOutReport => Sys2Proof.Machine.execFocusOutReport s
  | .defectNeighbourReport rep => Sys2Proof.Machine.execDefectNeighbourReport rep s
  | .revolutionMarkerDefect rev => Sys2Proof.Machine.execRevolutionMarkerDefect rev s
  | .rebaseDefectMap delta => Sys2Proof.Machine.execRebaseDefectMap delta s
  | .hallFaultNotice => Sys2Proof.Machine.execHallFaultNotice s
  | .unloadNoticeDefect => Sys2Proof.Machine.execUnloadNoticeDefect s
  | .clearMap c => Sys2Proof.Machine.execClearMap c s
  | .resetServoDefect => Sys2Proof.Machine.execResetServoDefect s
  | .defectGroupApply => Sys2Proof.Machine.execDefectGroupApply s
  | .shockSet x => Sys2Proof.Machine.execShockSet x s
  | .shockStart x => Sys2Proof.Machine.execShockStart x s
  | .shockEnd x => Sys2Proof.Machine.execShockEnd x s
  | .shockGroupApply => Sys2Proof.Machine.execShockGroupApply s
  | .resetServoShock => Sys2Proof.Machine.execResetServoShock s
  | .hallStateTaken hall t => Sys2Proof.Machine.execHallStateTaken hall t s
  | .speedUpdate hall t => Sys2Proof.Machine.execSpeedUpdate hall t s
  | .regulationEntry hall t => Sys2Proof.Machine.execRegulationEntry hall t s
  | .regulationExit hall t => Sys2Proof.Machine.execRegulationExit hall t s
  | .spindleSet x => Sys2Proof.Machine.execSpindleSet x s
  | .stallTimerExpiry x => Sys2Proof.Machine.execStallTimerExpiry x s
  | .stopTimerExpiry x => Sys2Proof.Machine.execStopTimerExpiry x s
  | .brakeTimerExpiry x => Sys2Proof.Machine.execBrakeTimerExpiry x s
  | .spinCommandTimeout x => Sys2Proof.Machine.execSpinCommandTimeout x s
  | .supplyStateReport st => Sys2Proof.Machine.execSupplyStateReport st s
  | .loadingStateReport st => Sys2Proof.Machine.execLoadingStateReport st s
  | .loadingStopRequest => Sys2Proof.Machine.execLoadingStopRequest s
  | .unloadNoticeSpindle => Sys2Proof.Machine.execUnloadNoticeSpindle s
  | .spindleEnableReport on => Sys2Proof.Machine.execSpindleEnableReport on s
  | .respinRequest n => Sys2Proof.Machine.execRespinRequest n s
  | .seekTargetSend target => Sys2Proof.Machine.execSeekTargetSend target s
  | .trackCounterReport value valid => Sys2Proof.Machine.execTrackCounterReport value valid s
  | .spinCav c => Sys2Proof.Machine.execSpinCav c s
  | .spinClv c => Sys2Proof.Machine.execSpinClv c s
  | .spinStop c => Sys2Proof.Machine.execSpinStop c s
  | .spindleGroupApply => Sys2Proof.Machine.execSpindleGroupApply s
  | .resetServoSpindle => Sys2Proof.Machine.execResetServoSpindle s
  | .recoverySet => Sys2Proof.Machine.execRecoverySet s
  | .respinTimeout => Sys2Proof.Machine.execRespinTimeout s
  | .quietWaitTimeout => Sys2Proof.Machine.execQuietWaitTimeout s
  | .refTimeout => Sys2Proof.Machine.execRefTimeout s
  | .confirmTimerExpiry => Sys2Proof.Machine.execConfirmTimerExpiry s
  | .condition k => Sys2Proof.Machine.execCondition k s
  | .stepReport n o => Sys2Proof.Machine.execStepReport n o s
  | .revolutionMarkerRecovery rev => Sys2Proof.Machine.execRevolutionMarkerRecovery rev s
  | .referenceTakenNotice => Sys2Proof.Machine.execReferenceTakenNotice s
  | .positionCommandTakenNotice => Sys2Proof.Machine.execPositionCommandTakenNotice s
  | .shockReport shock => Sys2Proof.Machine.execShockReport shock s
  | .holdSourceReport rep => Sys2Proof.Machine.execHoldSourceReport rep s
  | .recoveryViewReport rep => Sys2Proof.Machine.execRecoveryViewReport rep s
  | .rebaseLastGoodPlace delta => Sys2Proof.Machine.execRebaseLastGoodPlace delta s
  | .unloadNoticeRecovery => Sys2Proof.Machine.execUnloadNoticeRecovery s
  | .abandonmentRequest => Sys2Proof.Machine.execAbandonmentRequest s
  | .resetServoRecovery => Sys2Proof.Machine.execResetServoRecovery s
  | .recoveryGroupApply => Sys2Proof.Machine.execRecoveryGroupApply s
  | .loadingSet => Sys2Proof.Machine.execLoadingSet s
  | .switchChange => Sys2Proof.Machine.execSwitchChange s
  | .startEvaluation => Sys2Proof.Machine.execStartEvaluation s
  | .unload => Sys2Proof.Machine.execUnload s
  | .motionTimerExpiry => Sys2Proof.Machine.execMotionTimerExpiry s
  | .withdrawalTimeout => Sys2Proof.Machine.execWithdrawalTimeout s
  | .presentTimeout => Sys2Proof.Machine.execPresentTimeout s
  | .loadingViewReport rep => Sys2Proof.Machine.execLoadingViewReport rep s
  | .load c => Sys2Proof.Machine.execLoad c s
  | .eject c => Sys2Proof.Machine.execEject c s
  | .resetServoLoading => Sys2Proof.Machine.execResetServoLoading s
  | .loadingGroupApply => Sys2Proof.Machine.execLoadingGroupApply s
  | .carrierUnderflow ch => Sys2Proof.Machine.execCarrierUnderflow ch s
  | .dutyDelivery d => Sys2Proof.Machine.execDutyDelivery d s
  | .spindleEnableRequest on => Sys2Proof.Machine.execSpindleEnableRequest on s
  | .supplySet x => Sys2Proof.Machine.execSupplySet x s
  | .rideTimerExpiry x => Sys2Proof.Machine.execRideTimerExpiry x s
  | .restoreTimerExpiry x => Sys2Proof.Machine.execRestoreTimerExpiry x s
  | .supplyGroupApply => Sys2Proof.Machine.execSupplyGroupApply s
  | .resetServoOutputs => Sys2Proof.Machine.execResetServoOutputs s
  | .commandPost slot w7 => Sys2Proof.Machine.execCommandPost slot w7 s
  | .urgentPost w7 => Sys2Proof.Machine.execUrgentPost w7 s
  | .windowWrite addr data lanes => Sys2Proof.Machine.execWindowWrite addr data lanes s
  | .deferredHeadOffer => Sys2Proof.Machine.execDeferredHeadOffer s
  | .completion r => Sys2Proof.Machine.execCompletion r s
  | .nop c => Sys2Proof.Machine.execNop c s
  | .unknownCommand c => Sys2Proof.Machine.execUnknownCommand c s
  | .applyParameters c => Sys2Proof.Machine.execApplyParameters c s
  | .groupAppliedReport group clamped => Sys2Proof.Machine.execGroupAppliedReport group clamped s
  | .noticeGroupApply => Sys2Proof.Machine.execNoticeGroupApply s
  | .resetServo c => Sys2Proof.Machine.execResetServo c s
  | .snapshotRead addr lanes => Sys2Proof.Machine.execSnapshotRead addr lanes s
  | .noticeWordRead lanes => Sys2Proof.Machine.execNoticeWordRead lanes s
  | .noticeRaise k => Sys2Proof.Machine.execNoticeRaise k s
  | .captureSet x => Sys2Proof.Machine.execCaptureSet x s
  | .captureDone x => Sys2Proof.Machine.execCaptureDone x s
  | .triggerEvent src => Sys2Proof.Machine.execTriggerEvent src s
  | .captureArm c => Sys2Proof.Machine.execCaptureArm c s
  | .captureTrigger c => Sys2Proof.Machine.execCaptureTrigger c s
  | .captureStop c => Sys2Proof.Machine.execCaptureStop c s
  | .captureGroupApply => Sys2Proof.Machine.execCaptureGroupApply s
  | .resetServoCapture => Sys2Proof.Machine.execResetServoCapture s

end Sys2Proof.Machine
end

