-- ==== Sys2Proof/Machine/Step.lean ====
section
/-! DEFINITION. One step: the command at the front of the queue; on an empty queue the oldest event in transit; on neither,
the block idles. -/

namespace Sys2Proof.Machine

open Sys2Proof

/-- One step. On an empty queue a block takes the oldest event that was sent to it (DESIGN CHOICE, log 2): the exec arm of
that event removes it from those in transit. With no event in transit the part idles until the sender acts. -/
def step (s : State) : Host.Outcome State Fault Refusal :=
  match s.pending with
  | c :: rest => exec c { s with pending := rest }
  | [] =>
    match s.transit with
    | i :: _ => exec i s
    | [] => .next s

/-- s with the command that the word spells put at the front of its queue; s unchanged where the word spells none. -/
def State.withFetchWord (s : State) (nbits w : Nat) : State :=
  match decodeTableWord nbits w with
  | some c => { s with pending := c :: s.pending }
  | none => s

end Sys2Proof.Machine
end

