-- ==== Sys2Proof/Laws/State.lean ====
section
/-! SUPPORT. What each update of State does to each field, by rfl, and the same for a block at work. -/

namespace Sys2Proof.Machine

open Sys2Proof

/-! ## Field by field: an event is taken -/

@[simp] theorem take_fe (s : State) (i : Instr) : (s.take i).fe = s.fe := rfl
@[simp] theorem take_loop (s : State) (i : Instr) : (s.take i).loop = s.loop := rfl
@[simp] theorem take_pos (s : State) (i : Instr) : (s.take i).pos = s.pos := rfl
@[simp] theorem take_spin (s : State) (i : Instr) : (s.take i).spin = s.spin := rfl
@[simp] theorem take_defect (s : State) (i : Instr) : (s.take i).defect = s.defect := rfl
@[simp] theorem take_shock (s : State) (i : Instr) : (s.take i).shock = s.shock := rfl
@[simp] theorem take_recov (s : State) (i : Instr) : (s.take i).recov = s.recov := rfl
@[simp] theorem take_load (s : State) (i : Instr) : (s.take i).load = s.load := rfl
@[simp] theorem take_drive (s : State) (i : Instr) : (s.take i).drive = s.drive := rfl
@[simp] theorem take_bus (s : State) (i : Instr) : (s.take i).bus = s.bus := rfl
@[simp] theorem take_cq (s : State) (i : Instr) : (s.take i).cq = s.cq := rfl
@[simp] theorem take_cap (s : State) (i : Instr) : (s.take i).cap = s.cap := rfl
@[simp] theorem take_pins (s : State) (i : Instr) : (s.take i).pins = s.pins := rfl
@[simp] theorem take_clock (s : State) (i : Instr) : (s.take i).clock = s.clock := rfl
@[simp] theorem take_instant (s : State) (i : Instr) : (s.take i).instant = s.instant := rfl
@[simp] theorem take_held (s : State) (i : Instr) : (s.take i).held = s.held := rfl
@[simp] theorem take_subs (s : State) (i : Instr) : (s.take i).subs = [] := rfl
@[simp] theorem take_freeCount (s : State) (i : Instr) : (s.take i).freeCount = s.freeCount := rfl
@[simp] theorem take_transit (s : State) (i : Instr) : (s.take i).transit = s.transit.erase i := rfl
@[simp] theorem take_pending (s : State) (i : Instr) : (s.take i).pending = s.pending := rfl

/-! ## Field by field: putFe -/

@[simp] theorem putFe_fe (s : State) (w : W FrontEnd) : (s.putFe w).fe = w.blk := rfl
@[simp] theorem putFe_loop (s : State) (w : W FrontEnd) : (s.putFe w).loop = s.loop := rfl
@[simp] theorem putFe_pos (s : State) (w : W FrontEnd) : (s.putFe w).pos = s.pos := rfl
@[simp] theorem putFe_spin (s : State) (w : W FrontEnd) : (s.putFe w).spin = s.spin := rfl
@[simp] theorem putFe_defect (s : State) (w : W FrontEnd) : (s.putFe w).defect = s.defect := rfl
@[simp] theorem putFe_shock (s : State) (w : W FrontEnd) : (s.putFe w).shock = s.shock := rfl
@[simp] theorem putFe_recov (s : State) (w : W FrontEnd) : (s.putFe w).recov = s.recov := rfl
@[simp] theorem putFe_load (s : State) (w : W FrontEnd) : (s.putFe w).load = s.load := rfl
@[simp] theorem putFe_drive (s : State) (w : W FrontEnd) : (s.putFe w).drive = s.drive := rfl
@[simp] theorem putFe_bus (s : State) (w : W FrontEnd) : (s.putFe w).bus = s.bus := rfl
@[simp] theorem putFe_cq (s : State) (w : W FrontEnd) : (s.putFe w).cq = s.cq := rfl
@[simp] theorem putFe_cap (s : State) (w : W FrontEnd) : (s.putFe w).cap = s.cap := rfl
@[simp] theorem putFe_pins (s : State) (w : W FrontEnd) : (s.putFe w).pins = s.pins := rfl
@[simp] theorem putFe_clock (s : State) (w : W FrontEnd) : (s.putFe w).clock = s.clock := rfl
@[simp] theorem putFe_instant (s : State) (w : W FrontEnd) : (s.putFe w).instant = s.instant := rfl
@[simp] theorem putFe_held (s : State) (w : W FrontEnd) : (s.putFe w).held = s.held := rfl
@[simp] theorem putFe_subs (s : State) (w : W FrontEnd) : (s.putFe w).subs = s.subs ++ w.subs := rfl
@[simp] theorem putFe_freeCount (s : State) (w : W FrontEnd) : (s.putFe w).freeCount = s.freeCount := rfl
@[simp] theorem putFe_transit (s : State) (w : W FrontEnd) : (s.putFe w).transit = s.transit ++ w.out := rfl
@[simp] theorem putFe_pending (s : State) (w : W FrontEnd) : (s.putFe w).pending = s.pending := rfl

/-! ## Field by field: putLoop -/

@[simp] theorem putLoop_fe (s : State) (w : W LoopProc) : (s.putLoop w).fe = s.fe := rfl
@[simp] theorem putLoop_loop (s : State) (w : W LoopProc) : (s.putLoop w).loop = w.blk := rfl
@[simp] theorem putLoop_pos (s : State) (w : W LoopProc) : (s.putLoop w).pos = s.pos := rfl
@[simp] theorem putLoop_spin (s : State) (w : W LoopProc) : (s.putLoop w).spin = s.spin := rfl
@[simp] theorem putLoop_defect (s : State) (w : W LoopProc) : (s.putLoop w).defect = s.defect := rfl
@[simp] theorem putLoop_shock (s : State) (w : W LoopProc) : (s.putLoop w).shock = s.shock := rfl
@[simp] theorem putLoop_recov (s : State) (w : W LoopProc) : (s.putLoop w).recov = s.recov := rfl
@[simp] theorem putLoop_load (s : State) (w : W LoopProc) : (s.putLoop w).load = s.load := rfl
@[simp] theorem putLoop_drive (s : State) (w : W LoopProc) : (s.putLoop w).drive = s.drive := rfl
@[simp] theorem putLoop_bus (s : State) (w : W LoopProc) : (s.putLoop w).bus = s.bus := rfl
@[simp] theorem putLoop_cq (s : State) (w : W LoopProc) : (s.putLoop w).cq = s.cq := rfl
@[simp] theorem putLoop_cap (s : State) (w : W LoopProc) : (s.putLoop w).cap = s.cap := rfl
@[simp] theorem putLoop_pins (s : State) (w : W LoopProc) : (s.putLoop w).pins = s.pins := rfl
@[simp] theorem putLoop_clock (s : State) (w : W LoopProc) : (s.putLoop w).clock = s.clock := rfl
@[simp] theorem putLoop_instant (s : State) (w : W LoopProc) : (s.putLoop w).instant = s.instant := rfl
@[simp] theorem putLoop_held (s : State) (w : W LoopProc) : (s.putLoop w).held = s.held := rfl
@[simp] theorem putLoop_subs (s : State) (w : W LoopProc) : (s.putLoop w).subs = s.subs ++ w.subs := rfl
@[simp] theorem putLoop_freeCount (s : State) (w : W LoopProc) : (s.putLoop w).freeCount = s.freeCount := rfl
@[simp] theorem putLoop_transit (s : State) (w : W LoopProc) : (s.putLoop w).transit = s.transit ++ w.out := rfl
@[simp] theorem putLoop_pending (s : State) (w : W LoopProc) : (s.putLoop w).pending = s.pending := rfl

/-! ## Field by field: putPos -/

@[simp] theorem putPos_fe (s : State) (w : W Pos) : (s.putPos w).fe = s.fe := rfl
@[simp] theorem putPos_loop (s : State) (w : W Pos) : (s.putPos w).loop = s.loop := rfl
@[simp] theorem putPos_pos (s : State) (w : W Pos) : (s.putPos w).pos = w.blk := rfl
@[simp] theorem putPos_spin (s : State) (w : W Pos) : (s.putPos w).spin = s.spin := rfl
@[simp] theorem putPos_defect (s : State) (w : W Pos) : (s.putPos w).defect = s.defect := rfl
@[simp] theorem putPos_shock (s : State) (w : W Pos) : (s.putPos w).shock = s.shock := rfl
@[simp] theorem putPos_recov (s : State) (w : W Pos) : (s.putPos w).recov = s.recov := rfl
@[simp] theorem putPos_load (s : State) (w : W Pos) : (s.putPos w).load = s.load := rfl
@[simp] theorem putPos_drive (s : State) (w : W Pos) : (s.putPos w).drive = s.drive := rfl
@[simp] theorem putPos_bus (s : State) (w : W Pos) : (s.putPos w).bus = s.bus := rfl
@[simp] theorem putPos_cq (s : State) (w : W Pos) : (s.putPos w).cq = s.cq := rfl
@[simp] theorem putPos_cap (s : State) (w : W Pos) : (s.putPos w).cap = s.cap := rfl
@[simp] theorem putPos_pins (s : State) (w : W Pos) : (s.putPos w).pins = s.pins := rfl
@[simp] theorem putPos_clock (s : State) (w : W Pos) : (s.putPos w).clock = s.clock := rfl
@[simp] theorem putPos_instant (s : State) (w : W Pos) : (s.putPos w).instant = s.instant := rfl
@[simp] theorem putPos_held (s : State) (w : W Pos) : (s.putPos w).held = s.held := rfl
@[simp] theorem putPos_subs (s : State) (w : W Pos) : (s.putPos w).subs = s.subs ++ w.subs := rfl
@[simp] theorem putPos_freeCount (s : State) (w : W Pos) : (s.putPos w).freeCount = s.freeCount := rfl
@[simp] theorem putPos_transit (s : State) (w : W Pos) : (s.putPos w).transit = s.transit ++ w.out := rfl
@[simp] theorem putPos_pending (s : State) (w : W Pos) : (s.putPos w).pending = s.pending := rfl

/-! ## Field by field: putSpin -/

@[simp] theorem putSpin_fe (s : State) (w : W Spin) : (s.putSpin w).fe = s.fe := rfl
@[simp] theorem putSpin_loop (s : State) (w : W Spin) : (s.putSpin w).loop = s.loop := rfl
@[simp] theorem putSpin_pos (s : State) (w : W Spin) : (s.putSpin w).pos = s.pos := rfl
@[simp] theorem putSpin_spin (s : State) (w : W Spin) : (s.putSpin w).spin = w.blk := rfl
@[simp] theorem putSpin_defect (s : State) (w : W Spin) : (s.putSpin w).defect = s.defect := rfl
@[simp] theorem putSpin_shock (s : State) (w : W Spin) : (s.putSpin w).shock = s.shock := rfl
@[simp] theorem putSpin_recov (s : State) (w : W Spin) : (s.putSpin w).recov = s.recov := rfl
@[simp] theorem putSpin_load (s : State) (w : W Spin) : (s.putSpin w).load = s.load := rfl
@[simp] theorem putSpin_drive (s : State) (w : W Spin) : (s.putSpin w).drive = s.drive := rfl
@[simp] theorem putSpin_bus (s : State) (w : W Spin) : (s.putSpin w).bus = s.bus := rfl
@[simp] theorem putSpin_cq (s : State) (w : W Spin) : (s.putSpin w).cq = s.cq := rfl
@[simp] theorem putSpin_cap (s : State) (w : W Spin) : (s.putSpin w).cap = s.cap := rfl
@[simp] theorem putSpin_pins (s : State) (w : W Spin) : (s.putSpin w).pins = s.pins := rfl
@[simp] theorem putSpin_clock (s : State) (w : W Spin) : (s.putSpin w).clock = s.clock := rfl
@[simp] theorem putSpin_instant (s : State) (w : W Spin) : (s.putSpin w).instant = s.instant := rfl
@[simp] theorem putSpin_held (s : State) (w : W Spin) : (s.putSpin w).held = s.held := rfl
@[simp] theorem putSpin_subs (s : State) (w : W Spin) : (s.putSpin w).subs = s.subs ++ w.subs := rfl
@[simp] theorem putSpin_freeCount (s : State) (w : W Spin) : (s.putSpin w).freeCount = s.freeCount := rfl
@[simp] theorem putSpin_transit (s : State) (w : W Spin) : (s.putSpin w).transit = s.transit ++ w.out := rfl
@[simp] theorem putSpin_pending (s : State) (w : W Spin) : (s.putSpin w).pending = s.pending := rfl

/-! ## Field by field: putDefect -/

@[simp] theorem putDefect_fe (s : State) (w : W Def) : (s.putDefect w).fe = s.fe := rfl
@[simp] theorem putDefect_loop (s : State) (w : W Def) : (s.putDefect w).loop = s.loop := rfl
@[simp] theorem putDefect_pos (s : State) (w : W Def) : (s.putDefect w).pos = s.pos := rfl
@[simp] theorem putDefect_spin (s : State) (w : W Def) : (s.putDefect w).spin = s.spin := rfl
@[simp] theorem putDefect_defect (s : State) (w : W Def) : (s.putDefect w).defect = w.blk := rfl
@[simp] theorem putDefect_shock (s : State) (w : W Def) : (s.putDefect w).shock = s.shock := rfl
@[simp] theorem putDefect_recov (s : State) (w : W Def) : (s.putDefect w).recov = s.recov := rfl
@[simp] theorem putDefect_load (s : State) (w : W Def) : (s.putDefect w).load = s.load := rfl
@[simp] theorem putDefect_drive (s : State) (w : W Def) : (s.putDefect w).drive = s.drive := rfl
@[simp] theorem putDefect_bus (s : State) (w : W Def) : (s.putDefect w).bus = s.bus := rfl
@[simp] theorem putDefect_cq (s : State) (w : W Def) : (s.putDefect w).cq = s.cq := rfl
@[simp] theorem putDefect_cap (s : State) (w : W Def) : (s.putDefect w).cap = s.cap := rfl
@[simp] theorem putDefect_pins (s : State) (w : W Def) : (s.putDefect w).pins = s.pins := rfl
@[simp] theorem putDefect_clock (s : State) (w : W Def) : (s.putDefect w).clock = s.clock := rfl
@[simp] theorem putDefect_instant (s : State) (w : W Def) : (s.putDefect w).instant = s.instant := rfl
@[simp] theorem putDefect_held (s : State) (w : W Def) : (s.putDefect w).held = s.held := rfl
@[simp] theorem putDefect_subs (s : State) (w : W Def) : (s.putDefect w).subs = s.subs ++ w.subs := rfl
@[simp] theorem putDefect_freeCount (s : State) (w : W Def) : (s.putDefect w).freeCount = s.freeCount := rfl
@[simp] theorem putDefect_transit (s : State) (w : W Def) : (s.putDefect w).transit = s.transit ++ w.out := rfl
@[simp] theorem putDefect_pending (s : State) (w : W Def) : (s.putDefect w).pending = s.pending := rfl

/-! ## Field by field: putShock -/

@[simp] theorem putShock_fe (s : State) (w : W Shock) : (s.putShock w).fe = s.fe := rfl
@[simp] theorem putShock_loop (s : State) (w : W Shock) : (s.putShock w).loop = s.loop := rfl
@[simp] theorem putShock_pos (s : State) (w : W Shock) : (s.putShock w).pos = s.pos := rfl
@[simp] theorem putShock_spin (s : State) (w : W Shock) : (s.putShock w).spin = s.spin := rfl
@[simp] theorem putShock_defect (s : State) (w : W Shock) : (s.putShock w).defect = s.defect := rfl
@[simp] theorem putShock_shock (s : State) (w : W Shock) : (s.putShock w).shock = w.blk := rfl
@[simp] theorem putShock_recov (s : State) (w : W Shock) : (s.putShock w).recov = s.recov := rfl
@[simp] theorem putShock_load (s : State) (w : W Shock) : (s.putShock w).load = s.load := rfl
@[simp] theorem putShock_drive (s : State) (w : W Shock) : (s.putShock w).drive = s.drive := rfl
@[simp] theorem putShock_bus (s : State) (w : W Shock) : (s.putShock w).bus = s.bus := rfl
@[simp] theorem putShock_cq (s : State) (w : W Shock) : (s.putShock w).cq = s.cq := rfl
@[simp] theorem putShock_cap (s : State) (w : W Shock) : (s.putShock w).cap = s.cap := rfl
@[simp] theorem putShock_pins (s : State) (w : W Shock) : (s.putShock w).pins = s.pins := rfl
@[simp] theorem putShock_clock (s : State) (w : W Shock) : (s.putShock w).clock = s.clock := rfl
@[simp] theorem putShock_instant (s : State) (w : W Shock) : (s.putShock w).instant = s.instant := rfl
@[simp] theorem putShock_held (s : State) (w : W Shock) : (s.putShock w).held = s.held := rfl
@[simp] theorem putShock_subs (s : State) (w : W Shock) : (s.putShock w).subs = s.subs ++ w.subs := rfl
@[simp] theorem putShock_freeCount (s : State) (w : W Shock) : (s.putShock w).freeCount = s.freeCount := rfl
@[simp] theorem putShock_transit (s : State) (w : W Shock) : (s.putShock w).transit = s.transit ++ w.out := rfl
@[simp] theorem putShock_pending (s : State) (w : W Shock) : (s.putShock w).pending = s.pending := rfl

/-! ## Field by field: putRecov -/

@[simp] theorem putRecov_fe (s : State) (w : W Rec) : (s.putRecov w).fe = s.fe := rfl
@[simp] theorem putRecov_loop (s : State) (w : W Rec) : (s.putRecov w).loop = s.loop := rfl
@[simp] theorem putRecov_pos (s : State) (w : W Rec) : (s.putRecov w).pos = s.pos := rfl
@[simp] theorem putRecov_spin (s : State) (w : W Rec) : (s.putRecov w).spin = s.spin := rfl
@[simp] theorem putRecov_defect (s : State) (w : W Rec) : (s.putRecov w).defect = s.defect := rfl
@[simp] theorem putRecov_shock (s : State) (w : W Rec) : (s.putRecov w).shock = s.shock := rfl
@[simp] theorem putRecov_recov (s : State) (w : W Rec) : (s.putRecov w).recov = w.blk := rfl
@[simp] theorem putRecov_load (s : State) (w : W Rec) : (s.putRecov w).load = s.load := rfl
@[simp] theorem putRecov_drive (s : State) (w : W Rec) : (s.putRecov w).drive = s.drive := rfl
@[simp] theorem putRecov_bus (s : State) (w : W Rec) : (s.putRecov w).bus = s.bus := rfl
@[simp] theorem putRecov_cq (s : State) (w : W Rec) : (s.putRecov w).cq = s.cq := rfl
@[simp] theorem putRecov_cap (s : State) (w : W Rec) : (s.putRecov w).cap = s.cap := rfl
@[simp] theorem putRecov_pins (s : State) (w : W Rec) : (s.putRecov w).pins = s.pins := rfl
@[simp] theorem putRecov_clock (s : State) (w : W Rec) : (s.putRecov w).clock = s.clock := rfl
@[simp] theorem putRecov_instant (s : State) (w : W Rec) : (s.putRecov w).instant = s.instant := rfl
@[simp] theorem putRecov_held (s : State) (w : W Rec) : (s.putRecov w).held = s.held := rfl
@[simp] theorem putRecov_subs (s : State) (w : W Rec) : (s.putRecov w).subs = s.subs ++ w.subs := rfl
@[simp] theorem putRecov_freeCount (s : State) (w : W Rec) : (s.putRecov w).freeCount = s.freeCount := rfl
@[simp] theorem putRecov_transit (s : State) (w : W Rec) : (s.putRecov w).transit = s.transit ++ w.out := rfl
@[simp] theorem putRecov_pending (s : State) (w : W Rec) : (s.putRecov w).pending = s.pending := rfl

/-! ## Field by field: putLoad -/

@[simp] theorem putLoad_fe (s : State) (w : W Load) : (s.putLoad w).fe = s.fe := rfl
@[simp] theorem putLoad_loop (s : State) (w : W Load) : (s.putLoad w).loop = s.loop := rfl
@[simp] theorem putLoad_pos (s : State) (w : W Load) : (s.putLoad w).pos = s.pos := rfl
@[simp] theorem putLoad_spin (s : State) (w : W Load) : (s.putLoad w).spin = s.spin := rfl
@[simp] theorem putLoad_defect (s : State) (w : W Load) : (s.putLoad w).defect = s.defect := rfl
@[simp] theorem putLoad_shock (s : State) (w : W Load) : (s.putLoad w).shock = s.shock := rfl
@[simp] theorem putLoad_recov (s : State) (w : W Load) : (s.putLoad w).recov = s.recov := rfl
@[simp] theorem putLoad_load (s : State) (w : W Load) : (s.putLoad w).load = w.blk := rfl
@[simp] theorem putLoad_drive (s : State) (w : W Load) : (s.putLoad w).drive = s.drive := rfl
@[simp] theorem putLoad_bus (s : State) (w : W Load) : (s.putLoad w).bus = s.bus := rfl
@[simp] theorem putLoad_cq (s : State) (w : W Load) : (s.putLoad w).cq = s.cq := rfl
@[simp] theorem putLoad_cap (s : State) (w : W Load) : (s.putLoad w).cap = s.cap := rfl
@[simp] theorem putLoad_pins (s : State) (w : W Load) : (s.putLoad w).pins = s.pins := rfl
@[simp] theorem putLoad_clock (s : State) (w : W Load) : (s.putLoad w).clock = s.clock := rfl
@[simp] theorem putLoad_instant (s : State) (w : W Load) : (s.putLoad w).instant = s.instant := rfl
@[simp] theorem putLoad_held (s : State) (w : W Load) : (s.putLoad w).held = s.held := rfl
@[simp] theorem putLoad_subs (s : State) (w : W Load) : (s.putLoad w).subs = s.subs ++ w.subs := rfl
@[simp] theorem putLoad_freeCount (s : State) (w : W Load) : (s.putLoad w).freeCount = s.freeCount := rfl
@[simp] theorem putLoad_transit (s : State) (w : W Load) : (s.putLoad w).transit = s.transit ++ w.out := rfl
@[simp] theorem putLoad_pending (s : State) (w : W Load) : (s.putLoad w).pending = s.pending := rfl

/-! ## Field by field: putDrive -/

@[simp] theorem putDrive_fe (s : State) (w : W Drive) : (s.putDrive w).fe = s.fe := rfl
@[simp] theorem putDrive_loop (s : State) (w : W Drive) : (s.putDrive w).loop = s.loop := rfl
@[simp] theorem putDrive_pos (s : State) (w : W Drive) : (s.putDrive w).pos = s.pos := rfl
@[simp] theorem putDrive_spin (s : State) (w : W Drive) : (s.putDrive w).spin = s.spin := rfl
@[simp] theorem putDrive_defect (s : State) (w : W Drive) : (s.putDrive w).defect = s.defect := rfl
@[simp] theorem putDrive_shock (s : State) (w : W Drive) : (s.putDrive w).shock = s.shock := rfl
@[simp] theorem putDrive_recov (s : State) (w : W Drive) : (s.putDrive w).recov = s.recov := rfl
@[simp] theorem putDrive_load (s : State) (w : W Drive) : (s.putDrive w).load = s.load := rfl
@[simp] theorem putDrive_drive (s : State) (w : W Drive) : (s.putDrive w).drive = w.blk := rfl
@[simp] theorem putDrive_bus (s : State) (w : W Drive) : (s.putDrive w).bus = s.bus := rfl
@[simp] theorem putDrive_cq (s : State) (w : W Drive) : (s.putDrive w).cq = s.cq := rfl
@[simp] theorem putDrive_cap (s : State) (w : W Drive) : (s.putDrive w).cap = s.cap := rfl
@[simp] theorem putDrive_pins (s : State) (w : W Drive) : (s.putDrive w).pins = s.pins := rfl
@[simp] theorem putDrive_clock (s : State) (w : W Drive) : (s.putDrive w).clock = s.clock := rfl
@[simp] theorem putDrive_instant (s : State) (w : W Drive) : (s.putDrive w).instant = s.instant := rfl
@[simp] theorem putDrive_held (s : State) (w : W Drive) : (s.putDrive w).held = s.held := rfl
@[simp] theorem putDrive_subs (s : State) (w : W Drive) : (s.putDrive w).subs = s.subs ++ w.subs := rfl
@[simp] theorem putDrive_freeCount (s : State) (w : W Drive) : (s.putDrive w).freeCount = s.freeCount := rfl
@[simp] theorem putDrive_transit (s : State) (w : W Drive) : (s.putDrive w).transit = s.transit ++ w.out := rfl
@[simp] theorem putDrive_pending (s : State) (w : W Drive) : (s.putDrive w).pending = s.pending := rfl

/-! ## Field by field: putCap -/

@[simp] theorem putCap_fe (s : State) (w : W Capture) : (s.putCap w).fe = s.fe := rfl
@[simp] theorem putCap_loop (s : State) (w : W Capture) : (s.putCap w).loop = s.loop := rfl
@[simp] theorem putCap_pos (s : State) (w : W Capture) : (s.putCap w).pos = s.pos := rfl
@[simp] theorem putCap_spin (s : State) (w : W Capture) : (s.putCap w).spin = s.spin := rfl
@[simp] theorem putCap_defect (s : State) (w : W Capture) : (s.putCap w).defect = s.defect := rfl
@[simp] theorem putCap_shock (s : State) (w : W Capture) : (s.putCap w).shock = s.shock := rfl
@[simp] theorem putCap_recov (s : State) (w : W Capture) : (s.putCap w).recov = s.recov := rfl
@[simp] theorem putCap_load (s : State) (w : W Capture) : (s.putCap w).load = s.load := rfl
@[simp] theorem putCap_drive (s : State) (w : W Capture) : (s.putCap w).drive = s.drive := rfl
@[simp] theorem putCap_bus (s : State) (w : W Capture) : (s.putCap w).bus = s.bus := rfl
@[simp] theorem putCap_cq (s : State) (w : W Capture) : (s.putCap w).cq = s.cq := rfl
@[simp] theorem putCap_cap (s : State) (w : W Capture) : (s.putCap w).cap = w.blk := rfl
@[simp] theorem putCap_pins (s : State) (w : W Capture) : (s.putCap w).pins = s.pins := rfl
@[simp] theorem putCap_clock (s : State) (w : W Capture) : (s.putCap w).clock = s.clock := rfl
@[simp] theorem putCap_instant (s : State) (w : W Capture) : (s.putCap w).instant = s.instant := rfl
@[simp] theorem putCap_held (s : State) (w : W Capture) : (s.putCap w).held = s.held := rfl
@[simp] theorem putCap_subs (s : State) (w : W Capture) : (s.putCap w).subs = s.subs ++ w.subs := rfl
@[simp] theorem putCap_freeCount (s : State) (w : W Capture) : (s.putCap w).freeCount = s.freeCount := rfl
@[simp] theorem putCap_transit (s : State) (w : W Capture) : (s.putCap w).transit = s.transit ++ w.out := rfl
@[simp] theorem putCap_pending (s : State) (w : W Capture) : (s.putCap w).pending = s.pending := rfl

/-! ## A block at work -/

@[simp] theorem start_blk {β : Type} (b : β) : (W.start b).blk = b := rfl
@[simp] theorem start_out {β : Type} (b : β) : (W.start b).out = [] := rfl
@[simp] theorem start_subs {β : Type} (b : β) : (W.start b).subs = [] := rfl
@[simp] theorem start_ans {β : Type} (b : β) : (W.start b).ans = .taken := rfl
@[simp] theorem send_blk {β : Type} (w : W β) (i : Instr) : (w.send i).blk = w.blk := rfl
@[simp] theorem send_out {β : Type} (w : W β) (i : Instr) : (w.send i).out = w.out ++ [i] := rfl
@[simp] theorem send_subs {β : Type} (w : W β) (i : Instr) : (w.send i).subs = w.subs := rfl
@[simp] theorem send_ans {β : Type} (w : W β) (i : Instr) : (w.send i).ans = w.ans := rfl
@[simp] theorem sendAll_blk {β : Type} (w : W β) (is : List Instr) : (w.sendAll is).blk = w.blk := rfl
@[simp] theorem sendAll_out {β : Type} (w : W β) (is : List Instr) : (w.sendAll is).out = w.out ++ is := rfl
@[simp] theorem sendAll_subs {β : Type} (w : W β) (is : List Instr) : (w.sendAll is).subs = w.subs := rfl
@[simp] theorem sendAll_ans {β : Type} (w : W β) (is : List Instr) : (w.sendAll is).ans = w.ans := rfl
@[simp] theorem note_blk {β : Type} (w : W β) (k : SubStep) : (w.note k).blk = w.blk := rfl
@[simp] theorem note_out {β : Type} (w : W β) (k : SubStep) : (w.note k).out = w.out := rfl
@[simp] theorem note_subs {β : Type} (w : W β) (k : SubStep) : (w.note k).subs = w.subs ++ [k] := rfl
@[simp] theorem note_ans {β : Type} (w : W β) (k : SubStep) : (w.note k).ans = w.ans := rfl
@[simp] theorem put_blk {β : Type} (w : W β) (b : β) : (w.put b).blk = b := rfl
@[simp] theorem put_out {β : Type} (w : W β) (b : β) : (w.put b).out = w.out := rfl
@[simp] theorem put_subs {β : Type} (w : W β) (b : β) : (w.put b).subs = w.subs := rfl
@[simp] theorem put_ans {β : Type} (w : W β) (b : β) : (w.put b).ans = w.ans := rfl
@[simp] theorem upd_blk {β : Type} (w : W β) (f : β → β) : (w.upd f).blk = f w.blk := rfl
@[simp] theorem upd_out {β : Type} (w : W β) (f : β → β) : (w.upd f).out = w.out := rfl
@[simp] theorem upd_subs {β : Type} (w : W β) (f : β → β) : (w.upd f).subs = w.subs := rfl
@[simp] theorem upd_ans {β : Type} (w : W β) (f : β → β) : (w.upd f).ans = w.ans := rfl
@[simp] theorem refuse_blk {β : Type} (w : W β) (r : Result) (v : Word) : (w.refuse r v).blk = w.blk := rfl
@[simp] theorem refuse_out {β : Type} (w : W β) (r : Result) (v : Word) : (w.refuse r v).out = w.out := rfl
@[simp] theorem refuse_subs {β : Type} (w : W β) (r : Result) (v : Word) : (w.refuse r v).subs = w.subs := rfl
@[simp] theorem refuse_ans {β : Type} (w : W β) (r : Result) (v : Word) : (w.refuse r v).ans = .refused r v := rfl
@[simp] theorem defer_blk {β : Type} (w : W β) : w.defer.blk = w.blk := rfl
@[simp] theorem defer_out {β : Type} (w : W β) : w.defer.out = w.out := rfl
@[simp] theorem defer_subs {β : Type} (w : W β) : w.defer.subs = w.subs := rfl
@[simp] theorem defer_ans {β : Type} (w : W β) : w.defer.ans = .deferred := rfl
@[simp] theorem complete_blk {β : Type} (w : W β) (tag code : Byte) (r : Result) (v : Word) : (w.complete tag code r v).blk = w.blk := rfl
@[simp] theorem complete_out {β : Type} (w : W β) (tag code : Byte) (r : Result) (v : Word) : (w.complete tag code r v).out = w.out ++ [.completion { tag := tag, code := code, result := r, value := v }] := rfl
@[simp] theorem complete_subs {β : Type} (w : W β) (tag code : Byte) (r : Result) (v : Word) : (w.complete tag code r v).subs = w.subs := rfl
@[simp] theorem complete_ans {β : Type} (w : W β) (tag code : Byte) (r : Result) (v : Word) : (w.complete tag code r v).ans = w.ans := rfl

@[simp] theorem sendIf_blk {β : Type} (w : W β) (p : Bool) (i : Instr) : (w.sendIf p i).blk = w.blk := by
  cases p <;> simp [W.sendIf]
@[simp] theorem sendIf_out {β : Type} (w : W β) (p : Bool) (i : Instr) : (w.sendIf p i).out = w.out ++ if p then [i] else [] := by
  cases p <;> simp [W.sendIf]
@[simp] theorem sendIf_subs {β : Type} (w : W β) (p : Bool) (i : Instr) : (w.sendIf p i).subs = w.subs := by
  cases p <;> simp [W.sendIf]
@[simp] theorem sendIf_ans {β : Type} (w : W β) (p : Bool) (i : Instr) : (w.sendIf p i).ans = w.ans := by
  cases p <;> simp [W.sendIf]

end Sys2Proof.Machine
end

