-- ==== Sys2Proof/Laws/Ops.lean ====
section
/-! SUPPORT. The shared operations of Ops.lean: one lemma for all that each can do. -/

namespace Sys2Proof.Machine

open Sys2Proof

/-! ## Taking an event -/

theorem taking_live {s : State} (h : s.held = false) (i : Instr) (f : State → State) : s.taking i f = f (s.take i) := by
  simp [State.taking, h]

theorem taking_held {s : State} (h : s.held = true) (i : Instr) (f : State → State) : s.taking i f = s := by
  simp [State.taking, h]

theorem takeFe_live {s : State} (h : s.held = false) (i : Instr) (f : State → W FrontEnd) :
    s.takeFe i f = (s.take i).putFe (f (s.take i)) := by
  simp [State.takeFe, State.taking, h]

theorem takeFe_held {s : State} (h : s.held = true) (i : Instr) (f : State → W FrontEnd) : s.takeFe i f = s := by
  simp [State.takeFe, State.taking, h]

theorem takeLoop_live {s : State} (h : s.held = false) (i : Instr) (f : State → W LoopProc) :
    s.takeLoop i f = (s.take i).putLoop (f (s.take i)) := by
  simp [State.takeLoop, State.taking, h]

theorem takeLoop_held {s : State} (h : s.held = true) (i : Instr) (f : State → W LoopProc) : s.takeLoop i f = s := by
  simp [State.takeLoop, State.taking, h]

theorem takePos_live {s : State} (h : s.held = false) (i : Instr) (f : State → W Pos) :
    s.takePos i f = (s.take i).putPos (f (s.take i)) := by
  simp [State.takePos, State.taking, h]

theorem takePos_held {s : State} (h : s.held = true) (i : Instr) (f : State → W Pos) : s.takePos i f = s := by
  simp [State.takePos, State.taking, h]

theorem takeSpin_live {s : State} (h : s.held = false) (i : Instr) (f : State → W Spin) :
    s.takeSpin i f = (s.take i).putSpin (f (s.take i)) := by
  simp [State.takeSpin, State.taking, h]

theorem takeSpin_held {s : State} (h : s.held = true) (i : Instr) (f : State → W Spin) : s.takeSpin i f = s := by
  simp [State.takeSpin, State.taking, h]

theorem takeDefect_live {s : State} (h : s.held = false) (i : Instr) (f : State → W Def) :
    s.takeDefect i f = (s.take i).putDefect (f (s.take i)) := by
  simp [State.takeDefect, State.taking, h]

theorem takeDefect_held {s : State} (h : s.held = true) (i : Instr) (f : State → W Def) : s.takeDefect i f = s := by
  simp [State.takeDefect, State.taking, h]

theorem takeShock_live {s : State} (h : s.held = false) (i : Instr) (f : State → W Shock) :
    s.takeShock i f = (s.take i).putShock (f (s.take i)) := by
  simp [State.takeShock, State.taking, h]

theorem takeShock_held {s : State} (h : s.held = true) (i : Instr) (f : State → W Shock) : s.takeShock i f = s := by
  simp [State.takeShock, State.taking, h]

theorem takeRecov_live {s : State} (h : s.held = false) (i : Instr) (f : State → W Rec) :
    s.takeRecov i f = (s.take i).putRecov (f (s.take i)) := by
  simp [State.takeRecov, State.taking, h]

theorem takeRecov_held {s : State} (h : s.held = true) (i : Instr) (f : State → W Rec) : s.takeRecov i f = s := by
  simp [State.takeRecov, State.taking, h]

theorem takeLoad_live {s : State} (h : s.held = false) (i : Instr) (f : State → W Load) :
    s.takeLoad i f = (s.take i).putLoad (f (s.take i)) := by
  simp [State.takeLoad, State.taking, h]

theorem takeLoad_held {s : State} (h : s.held = true) (i : Instr) (f : State → W Load) : s.takeLoad i f = s := by
  simp [State.takeLoad, State.taking, h]

theorem takeDrive_live {s : State} (h : s.held = false) (i : Instr) (f : State → W Drive) :
    s.takeDrive i f = (s.take i).putDrive (f (s.take i)) := by
  simp [State.takeDrive, State.taking, h]

theorem takeDrive_held {s : State} (h : s.held = true) (i : Instr) (f : State → W Drive) : s.takeDrive i f = s := by
  simp [State.takeDrive, State.taking, h]

theorem takeCap_live {s : State} (h : s.held = false) (i : Instr) (f : State → W Capture) :
    s.takeCap i f = (s.take i).putCap (f (s.take i)) := by
  simp [State.takeCap, State.taking, h]

theorem takeCap_held {s : State} (h : s.held = true) (i : Instr) (f : State → W Capture) : s.takeCap i f = s := by
  simp [State.takeCap, State.taking, h]

/-! ## Offers -/

theorem offerFe_live {s : State} (h : s.held = false) (i : Instr) (c : Posted) (f : State → W FrontEnd) :
    s.offerFe i c f = ((s.take i).putFe (f (s.take i))).answered c (f (s.take i)).ans := by
  simp [State.offerFe, State.taking, h]

theorem offerFe_held {s : State} (h : s.held = true) (i : Instr) (c : Posted) (f : State → W FrontEnd) :
    s.offerFe i c f = s := by
  simp [State.offerFe, State.taking, h]

theorem offerPos_live {s : State} (h : s.held = false) (i : Instr) (c : Posted) (f : State → W Pos) :
    s.offerPos i c f = ((s.take i).putPos (f (s.take i))).answered c (f (s.take i)).ans := by
  simp [State.offerPos, State.taking, h]

theorem offerPos_held {s : State} (h : s.held = true) (i : Instr) (c : Posted) (f : State → W Pos) :
    s.offerPos i c f = s := by
  simp [State.offerPos, State.taking, h]

theorem offerSpin_live {s : State} (h : s.held = false) (i : Instr) (c : Posted) (f : State → W Spin) :
    s.offerSpin i c f = ((s.take i).putSpin (f (s.take i))).answered c (f (s.take i)).ans := by
  simp [State.offerSpin, State.taking, h]

theorem offerSpin_held {s : State} (h : s.held = true) (i : Instr) (c : Posted) (f : State → W Spin) :
    s.offerSpin i c f = s := by
  simp [State.offerSpin, State.taking, h]

theorem offerDefect_live {s : State} (h : s.held = false) (i : Instr) (c : Posted) (f : State → W Def) :
    s.offerDefect i c f = ((s.take i).putDefect (f (s.take i))).answered c (f (s.take i)).ans := by
  simp [State.offerDefect, State.taking, h]

theorem offerDefect_held {s : State} (h : s.held = true) (i : Instr) (c : Posted) (f : State → W Def) :
    s.offerDefect i c f = s := by
  simp [State.offerDefect, State.taking, h]

theorem offerLoad_live {s : State} (h : s.held = false) (i : Instr) (c : Posted) (f : State → W Load) :
    s.offerLoad i c f = ((s.take i).putLoad (f (s.take i))).answered c (f (s.take i)).ans := by
  simp [State.offerLoad, State.taking, h]

theorem offerLoad_held {s : State} (h : s.held = true) (i : Instr) (c : Posted) (f : State → W Load) :
    s.offerLoad i c f = s := by
  simp [State.offerLoad, State.taking, h]

theorem offerCap_live {s : State} (h : s.held = false) (i : Instr) (c : Posted) (f : State → W Capture) :
    s.offerCap i c f = ((s.take i).putCap (f (s.take i))).answered c (f (s.take i)).ans := by
  simp [State.offerCap, State.taking, h]

theorem offerCap_held {s : State} (h : s.held = true) (i : Instr) (c : Posted) (f : State → W Capture) :
    s.offerCap i c f = s := by
  simp [State.offerCap, State.taking, h]

/-! ## The queue -/

theorem retire_head {s : State} {c : Posted} (h : s.cq.queue.head? = some c) : s.retire c = s.retireHead := by
  simp [State.retire, h]

theorem retire_other {s : State} {c : Posted} (h : s.cq.queue.head? ≠ some c) : s.retire c = s := by
  simp [State.retire, h]

theorem answered_taken (s : State) (c : Posted) : s.answered c .taken = s.retire c := rfl

theorem answered_refused (s : State) (c : Posted) (r : Result) (v : Word) :
    s.answered c (.refused r v) = (s.completeNow c r v).retire c := rfl

/-- A completion is written at the write index, counted, and CMD_DONE is raised (R184). -/
theorem recordCompletion_eq (s : State) (r : CompletionRec) :
    s.recordCompletion r = { s with cq := s.cq.record r, transit := s.transit ++ [.noticeRaise .cmdDone] } := rfl

@[simp] theorem record_queue (q : CmdQueue) (r : CompletionRec) : (q.record r).queue = q.queue := rfl

@[simp] theorem record_deferred (q : CmdQueue) (r : CompletionRec) : (q.record r).deferred = q.deferred := rfl

@[simp] theorem record_applying (q : CmdQueue) (r : CompletionRec) : (q.record r).applying = q.applying := rfl

@[simp] theorem record_stale (q : CmdQueue) (r : CompletionRec) : (q.record r).stale = q.stale := rfl

@[simp] theorem record_count (q : CmdQueue) (r : CompletionRec) : (q.record r).count = q.count + 1 := rfl

@[simp] theorem record_writeIndex (q : CmdQueue) (r : CompletionRec) :
    (q.record r).writeIndex = (q.writeIndex + 1) % 16 := rfl

@[simp] theorem record_ring (q : CmdQueue) (r : CompletionRec) : (q.record r).ring = q.ring.set q.writeIndex r := rfl

/-! ## Reports of a group -/

theorem mem_groupReports {g : GroupPart} {clamped times : Nat} {i : Instr} :
    i ∈ groupReports g clamped times ↔ times ≠ 0 ∧ i = .groupAppliedReport g clamped := List.mem_replicate

theorem count_groupReports (g : GroupPart) (clamped times : Nat) :
    (groupReports g clamped times).count (.groupAppliedReport g clamped) = times := List.count_replicate_self

/-! ## Rows that name a sub-step -/

theorem within_came {k : SubStep} {t : State} (h : k ∈ t.subs) (s : State) : within k t s = t := by simp [within, h]

theorem within_not {k : SubStep} {t : State} (h : k ∉ t.subs) (s : State) : within k t s = s := by simp [within, h]

end Sys2Proof.Machine
end

