-- ==== Sys2Proof/Laws/Drive.lean ====
section
/-! SUPPORT. The Drive Output Unit's shared operations: an event that may clear the spindle output enable, and the counts that a
clear leaves. -/

namespace Sys2Proof.Machine

open Sys2Proof

theorem driveEvent_held {s : State} (h : s.held = true) (i : Instr) (f : Nat → Drive → W Drive) : s.driveEvent i f = s := by
  simp [State.driveEvent, takeDrive_held h]

/-- An event after which the enable is not newly clear uses up no free value. -/
theorem driveEvent_kept {s : State} (h : s.held = false) {i : Instr} {f : Nat → Drive → W Drive} {w : W Drive}
    (hw : f (Config.clearMoment s.freeCount % period) s.drive = w)
    (hk : s.drive.spindleEnable = false ∨ w.blk.spindleEnable = true) : s.driveEvent i f = (s.take i).putDrive w := by
  rcases hk with hk | hk <;> simp [State.driveEvent, takeDrive_live h, State.take, State.putDrive, hw, hk]

/-- A clear of the enable uses up the free value that gives its moment. -/
theorem driveEvent_clears {s : State} (h : s.held = false) {i : Instr} {f : Nat → Drive → W Drive} {w : W Drive}
    (hw : f (Config.clearMoment s.freeCount % period) s.drive = w) (hs : s.drive.spindleEnable = true)
    (hc : w.blk.spindleEnable = false) :
    s.driveEvent i f = { (s.take i).putDrive w with freeCount := s.freeCount + 1 } := by
  simp [State.driveEvent, takeDrive_live h, State.take, State.putDrive, State.useFree, hw, hs, hc, h]

theorem clearMoment_lt (n : Nat) : Config.clearMoment n % period < period := Nat.mod_lt _ (by decide)

@[simp] theorem offWhenCleared_none (m off : Nat) : offWhenCleared m off none = off := rfl

/-- A window that has ended by the moment of the clear ended by itself. -/
theorem offWhenCleared_ended {m lo hi : Nat} (off : Nat) (h : lo < hi) (he : hi ≤ m) :
    offWhenCleared m off (some (lo, hi)) = period - hi := by
  simp [offWhenCleared, Nat.min_eq_right he, show ¬ m ≤ lo by omega]

/-- A signal that is active at the moment of the clear ends there. -/
theorem offWhenCleared_cut {m lo hi : Nat} (off : Nat) (h : lo < m) (he : m < hi) :
    offWhenCleared m off (some (lo, hi)) = period - m := by
  simp [offWhenCleared, Nat.min_eq_left (Nat.le_of_lt he), show ¬ m ≤ lo by omega]

/-- A window not yet begun never begins. -/
theorem offWhenCleared_unbegun {m lo : Nat} (off hi : Nat) (h : m ≤ lo) :
    offWhenCleared m off (some (lo, hi)) = period := by
  simp [offWhenCleared, h]

end Sys2Proof.Machine
end

