-- ==== Sys2Proof/Laws/Loop.lean ====
section
/-! SUPPORT. The Loop Processor's shared operations: what each leaves in the block, and what it sends. -/

namespace Sys2Proof.Machine

open Sys2Proof

@[simp] theorem reportState_blk (id : LoopId) (asked : Bool) (b : LoopProc) (w : W LoopProc) :
    (LoopProc.reportState id asked b w).blk = w.blk := by
  unfold LoopProc.reportState
  cases id <;> dsimp only
  · split
    · simp
    · split <;> simp
  · simp

@[simp] theorem reportState_subs (id : LoopId) (asked : Bool) (b : LoopProc) (w : W LoopProc) :
    (LoopProc.reportState id asked b w).subs = w.subs := by
  unfold LoopProc.reportState
  cases id <;> dsimp only
  · split
    · simp
    · split <;> simp
  · simp

@[simp] theorem reportHolds_blk (b : LoopProc) (w : W LoopProc) : (LoopProc.reportHolds b w).blk = w.blk := by
  unfold LoopProc.reportHolds; split <;> simp

@[simp] theorem reportHolds_subs (b : LoopProc) (w : W LoopProc) : (LoopProc.reportHolds b w).subs = w.subs := by
  unfold LoopProc.reportHolds; split <;> simp

theorem mem_reportState {i : Instr} {w : W LoopProc} (h : i ∈ w.out) (id : LoopId) (asked : Bool) (b : LoopProc) :
    i ∈ (LoopProc.reportState id asked b w).out := by
  unfold LoopProc.reportState
  cases id <;> dsimp only
  · split
    · simp [h]
    · split <;> simp [h]
  · simp [h]

theorem mem_reportHolds {i : Instr} {w : W LoopProc} (h : i ∈ w.out) (b : LoopProc) :
    i ∈ (LoopProc.reportHolds b w).out := by
  unfold LoopProc.reportHolds; split <;> simp [h]

/-! ## One loop sample -/

/-- Steps 2 to 4 of a loop sample: the gain set, the pending request, a SUPPLY source (R14). -/
def Loop.prepared (l : Loop) (allowed forceOff : Bool) : Loop :=
  Loop.supplyOff
    (if forceOff then (Loop.goOff { l with gainUse := l.gainReq, request := none }, false)
     else Loop.takeRequest { l with gainUse := l.gainReq } allowed).1

/-- What one loop sample forms, from the context before it. -/
def Loop.outcome (l : Loop) (allowed forceOff : Bool) (b : Nat) (e : Int) : Sampled :=
  (l.prepared allowed forceOff).form (Loop.holdFrom l) b e

/-- Whether the Position Controller is told that the tracking loop was taken to OFF at step 3 (R16). -/
def Loop.told (l : Loop) (allowed forceOff : Bool) : Bool :=
  (if forceOff then (Loop.goOff { l with gainUse := l.gainReq, request := none }, false)
   else Loop.takeRequest { l with gainUse := l.gainReq } allowed).2

/-- Whether a SUPPLY source takes the loop back to OFF within the sample (R21). -/
def Loop.lost (l : Loop) (allowed forceOff : Bool) : Bool :=
  Loop.dropped l
    (if forceOff then (Loop.goOff { l with gainUse := l.gainReq, request := none }, false)
     else Loop.takeRequest { l with gainUse := l.gainReq } allowed).1

/-- The delivery and the reports of a loop sample that formed o. -/
def LoopProc.reported (id : LoopId) (o : Sampled) (lost told : Bool) (w : W LoopProc) : W LoopProc :=
  LoopProc.reportHolds w.blk
    ((LoopProc.reportState id (decide ((w.blk.get id).request = some .off)) w.blk
      ((w.put (w.blk.set id { o.l with last := o.v })).send (.dutyDelivery (loopDelivery id o.v)))).sendIf lost
        (.loopStateReport (.state id .off false)) |>.sendIf told .trackingOffNotice)

@[simp] theorem reported_blk (id : LoopId) (o : Sampled) (lost told : Bool) (w : W LoopProc) :
    (LoopProc.reported id o lost told w).blk = w.blk.set id { o.l with last := o.v } := by simp [LoopProc.reported]

@[simp] theorem reported_subs (id : LoopId) (o : Sampled) (lost told : Bool) (w : W LoopProc) :
    (LoopProc.reported id o lost told w).subs = w.subs := by simp [LoopProc.reported]

theorem mem_reported {i : Instr} {w : W LoopProc} {id : LoopId} {o : Sampled} {lost told : Bool}
    (h : i ∈ w.out ∨ i = .dutyDelivery (loopDelivery id o.v)) : i ∈ (LoopProc.reported id o lost told w).out := by
  unfold LoopProc.reported
  refine mem_reportHolds ?_ _
  rw [sendIf_out, sendIf_out]
  refine List.mem_append_left _ (List.mem_append_left _ (mem_reportState ?_ _ _ _))
  simpa using h

/-- Steps 8 and 9 of a loop sample that formed o: the delivery, the reports and the conditions. -/
def LoopProc.finishSample (id : LoopId) (o : Sampled) (lost told : Bool) (w : W LoopProc) : W LoopProc :=
  let w3 := LoopProc.reported id o lost told w
  let w4 := if o.holdTimeout then (w3.send (.condition .holdTimeout)).note .holdTimeout else w3
  if o.limitRun then (w4.send (.condition (limitCondition id))).note .limitRun else w4

theorem mem_finishSample {i : Instr} {w : W LoopProc} {id : LoopId} {o : Sampled} {lost told : Bool}
    (h : i ∈ w.out ∨ i = .dutyDelivery (loopDelivery id o.v)) : i ∈ (LoopProc.finishSample id o lost told w).out := by
  have h3 : i ∈ (LoopProc.reported id o lost told w).out := mem_reported h
  simp only [LoopProc.finishSample]
  cases o.holdTimeout <;> cases o.limitRun <;> simp [h3]

theorem sampleLoop_eq (id : LoopId) (e : Int) (a f : Bool) (w : W LoopProc) :
    LoopProc.sampleLoop id e a f w =
      LoopProc.finishSample id ((w.blk.get id).outcome a f w.blk.band e) ((w.blk.get id).lost a f)
        ((w.blk.get id).told a f) w := rfl

theorem sampleLoop_blk (id : LoopId) (e : Int) (a f : Bool) (w : W LoopProc) :
    (LoopProc.sampleLoop id e a f w).blk =
      w.blk.set id { ((w.blk.get id).outcome a f w.blk.band e).l with
                     last := ((w.blk.get id).outcome a f w.blk.band e).v } := by
  rw [sampleLoop_eq]
  generalize (w.blk.get id).outcome a f w.blk.band e = o
  obtain ⟨l, v, ht, lr⟩ := o
  cases ht <;> cases lr <;> simp [LoopProc.finishSample]

theorem sampleLoop_out (id : LoopId) (e : Int) (a f : Bool) (w : W LoopProc) (i : Instr) (h : i ∈ w.out) :
    i ∈ (LoopProc.sampleLoop id e a f w).out := by
  rw [sampleLoop_eq]
  generalize (w.blk.get id).outcome a f w.blk.band e = o
  generalize (w.blk.get id).told a f = r
  generalize (w.blk.get id).lost a f = d
  exact mem_finishSample (Or.inl h)

/-- The value formed is delivered (R32). -/
theorem sampleLoop_delivers (id : LoopId) (e : Int) (a f : Bool) (w : W LoopProc) :
    .dutyDelivery (loopDelivery id ((w.blk.get id).outcome a f w.blk.band e).v) ∈ (LoopProc.sampleLoop id e a f w).out := by
  rw [sampleLoop_eq]
  generalize (w.blk.get id).outcome a f w.blk.band e = o
  generalize (w.blk.get id).told a f = r
  generalize (w.blk.get id).lost a f = d
  exact mem_finishSample (Or.inr rfl)

theorem sampleLoop_subs (id : LoopId) (e : Int) (a f : Bool) (w : W LoopProc) (k : SubStep) (h : k ∈ w.subs) :
    k ∈ (LoopProc.sampleLoop id e a f w).subs := by
  rw [sampleLoop_eq]
  generalize (w.blk.get id).outcome a f w.blk.band e = o
  generalize (w.blk.get id).told a f = r
  generalize (w.blk.get id).lost a f = d
  obtain ⟨l, v, ht, lr⟩ := o
  cases ht <;> cases lr <;> simp [LoopProc.finishSample, h]

/-- A hold timeout in the sample raises the condition (R20). -/
theorem sampleLoop_holdTimeout (id : LoopId) (e : Int) (a f : Bool) (w : W LoopProc)
    (h : ((w.blk.get id).outcome a f w.blk.band e).holdTimeout = true) :
    .condition .holdTimeout ∈ (LoopProc.sampleLoop id e a f w).out
      ∧ .holdTimeout ∈ (LoopProc.sampleLoop id e a f w).subs := by
  rw [sampleLoop_eq]
  simp only [LoopProc.finishSample, h, if_true]
  split <;> simp

/-- A limit run reached in the sample raises the condition (R29). -/
theorem sampleLoop_limitRun (id : LoopId) (e : Int) (a f : Bool) (w : W LoopProc)
    (h : ((w.blk.get id).outcome a f w.blk.band e).limitRun = true) :
    .condition (limitCondition id) ∈ (LoopProc.sampleLoop id e a f w).out
      ∧ .limitRun ∈ (LoopProc.sampleLoop id e a f w).subs := by
  rw [sampleLoop_eq]
  simp only [LoopProc.finishSample, h, if_true]
  simp

/-! ## The sled step -/

/-- The work of `w` with nothing lost: the loops, the band and the thresholds as they were, everything sent and noted kept. -/
structure LoopsKept (w v : W LoopProc) : Prop where
  focus : v.blk.focus = w.blk.focus
  track : v.blk.track = w.blk.track
  band : v.blk.band = w.blk.band
  bandSet : v.blk.bandSet = w.blk.bandSet
  temp : v.blk.temp = w.blk.temp
  out : ∀ i ∈ w.out, i ∈ v.out
  subs : ∀ k ∈ w.subs, k ∈ v.subs

theorem LoopsKept.refl (w : W LoopProc) : LoopsKept w w := ⟨rfl, rfl, rfl, rfl, rfl, fun _ h => h, fun _ h => h⟩

theorem LoopsKept.trans {u v w : W LoopProc} (h : LoopsKept u v) (k : LoopsKept v w) : LoopsKept u w :=
  ⟨k.focus.trans h.focus, k.track.trans h.track, k.band.trans h.band, k.bandSet.trans h.bandSet, k.temp.trans h.temp,
   fun i hi => k.out i (h.out i hi), fun i hi => k.subs i (h.subs i hi)⟩

theorem loopsKept_sled (w : W LoopProc) (k : Sled) : LoopsKept w (w.put { w.blk with sled := k }) :=
  ⟨rfl, rfl, rfl, rfl, rfl, fun _ h => h, fun _ h => h⟩

theorem loopsKept_deliverSled (home : Bool) (d : Int) (w : W LoopProc) : LoopsKept w (LoopProc.deliverSled home d w) :=
  ⟨rfl, rfl, rfl, rfl, rfl, fun _ h => by simp [LoopProc.deliverSled, h], fun _ h => by simp [LoopProc.deliverSled, h]⟩

theorem loopsKept_deliverSledIfNew (home : Bool) (d : Int) (w : W LoopProc) :
    LoopsKept w (LoopProc.deliverSledIfNew home d w) := by
  unfold LoopProc.deliverSledIfNew
  split
  · exact LoopsKept.refl w
  · exact loopsKept_deliverSled home d w

theorem loopsKept_takeSledRequest (home : Bool) (w : W LoopProc) : LoopsKept w (LoopProc.takeSledRequest home w) := by
  unfold LoopProc.takeSledRequest
  split
  · exact LoopsKept.refl w
  · exact loopsKept_sled _ _
  · exact (loopsKept_sled _ _).trans (loopsKept_deliverSledIfNew _ _ _)

/-- The sled step changes the sled alone (R33 to R35). -/
theorem loopsKept_sledStep (home : Bool) (v : Int) (w : W LoopProc) : LoopsKept w (LoopProc.sledStep home v w) := by
  refine (loopsKept_takeSledRequest home w).trans ?_
  unfold LoopProc.sledStep
  dsimp only
  split
  · exact loopsKept_deliverSledIfNew _ _ _
  · split
    · split
      · exact loopsKept_sled _ _
      · have h := (loopsKept_sled (LoopProc.takeSledRequest home w)
          { (LoopProc.takeSledRequest home w).blk.sled with sum := 0, phase := 0 }).trans
          (loopsKept_deliverSled home ((LoopProc.takeSledRequest home w).blk.sled.duty
            ((LoopProc.takeSledRequest home w).blk.sled.sum + v)) _)
        exact ⟨h.focus, h.track, h.band, h.bandSet, h.temp, h.out, fun k hk => by simp [h.subs k hk]⟩
    · exact (loopsKept_sled _ _).trans (loopsKept_deliverSledIfNew _ _ _)

/-! ## The set -/

/-- The block after the focus sample of a set. -/
def LoopProc.afterFocus (x : SampleSet) (img : Memory) (b : LoopProc) : W LoopProc :=
  LoopProc.sampleLoop .focus x.fe true false
    (LoopProc.applyLoopGroup .focus img (W.start (b.refreshBand x.refresh)))

/-- The block after the tracking sample of a set. -/
def LoopProc.afterTrack (x : SampleSet) (img : Memory) (b : LoopProc) : W LoopProc :=
  LoopProc.sampleLoop .track x.te (loopClosed (b.afterFocus x img).blk.focus.state)
    (loopClosed b.focus.state && !loopClosed (b.afterFocus x img).blk.focus.state)
    (LoopProc.applySledGroup img (LoopProc.applyLoopGroup .track img (b.afterFocus x img)))

/-- The rest of a set leaves the loops as the tracking sample left them. -/
theorem loopsKept_takeSet (x : SampleSet) (img : Memory) (home : Bool) (b : LoopProc) :
    LoopsKept (b.afterTrack x img) (LoopProc.takeSet x img home b) := by
  have h : LoopProc.takeSet x img home b =
      LoopProc.sledStep home (b.afterTrack x img).blk.track.last
        (LoopProc.sledToLoop ((loopClosed b.focus.state && !loopClosed (b.afterFocus x img).blk.focus.state)
          && decide (b.track.state ≠ .off)) (b.afterTrack x img)) := rfl
  rw [h]
  refine LoopsKept.trans ?_ (loopsKept_sledStep _ _ _)
  unfold LoopProc.sledToLoop
  split
  · exact loopsKept_sled _ _
  · exact LoopsKept.refl _

/-- Nothing waits: the groups stay as they are. -/
theorem applyLoopGroup_idle {id : LoopId} {w : W LoopProc} (h : (w.blk.get id).awaiting = 0) (img : Memory) :
    LoopProc.applyLoopGroup id img w = w := by
  simp [LoopProc.applyLoopGroup, h]

end Sys2Proof.Machine
end

