-- ==== Sys2Proof/Laws/Memory.lean ====
section
/-! SUPPORT. The addressed buffers: every write keeps the canonical form, and what a read gives after a write. -/

namespace Sys2Proof.Machine

open Sys2Proof

theorem Memory.wf_nil : Memory.wf [] = true := rfl

theorem Memory.wf_cons (k : Nat) (v : Byte) (m : Memory) :
    Memory.wf ((k, v) :: m) = true ↔ v ≠ Memory.unlisted k ∧ (∀ c ∈ m, k < c.1) ∧ Memory.wf m = true := by
  simp [Memory.wf, and_assoc]

/-- An offset below every listed one reads as unlisted. -/
theorem Memory.read_below {m : Memory} {a : Nat} (h : ∀ c ∈ m, a < c.1) : Memory.read m a = Memory.unlisted a := by
  induction m with
  | nil => rfl
  | cons c m ih =>
    obtain ⟨k, v⟩ := c
    have hk : a < k := h (k, v) (by simp)
    have : a ≠ k := by omega
    simp only [Memory.read, this, if_false]
    exact ih (fun c hc => h c (by simp [hc]))

/-- Every entry after a write is an old one or lies at the offset written. -/
theorem Memory.mem_write {m : Memory} {a : Nat} {b : Byte} {c : Nat × Byte} (h : c ∈ Memory.write m a b) :
    c ∈ m ∨ c.1 = a := by
  induction m with
  | nil =>
    simp only [Memory.write] at h
    split at h
    · simp at h
    · simp only [List.mem_singleton] at h; right; rw [h]
  | cons d m ih =>
    obtain ⟨k, v⟩ := d
    simp only [Memory.write] at h
    split at h
    · split at h
      · exact Or.inl h
      · rcases List.mem_cons.1 h with h | h
        · right; rw [h]
        · exact Or.inl h
    · split at h
      · split at h
        · exact Or.inl (List.mem_cons_of_mem _ h)
        · rcases List.mem_cons.1 h with h | h
          · right; rw [h]
          · exact Or.inl (List.mem_cons_of_mem _ h)
      · rcases List.mem_cons.1 h with h | h
        · left; rw [h]; simp
        · rcases ih h with h | h
          · exact Or.inl (List.mem_cons_of_mem _ h)
          · exact Or.inr h

/-- A write keeps the canonical form. -/
theorem Memory.wf_write {m : Memory} (h : m.wf = true) (a : Nat) (b : Byte) : (m.write a b).wf = true := by
  induction m with
  | nil =>
    simp only [Memory.write]
    split
    · rfl
    · rename_i hb; simp [Memory.wf, hb]
  | cons d m ih =>
    obtain ⟨k, v⟩ := d
    obtain ⟨hv, hk, hm⟩ := (Memory.wf_cons k v m).1 h
    simp only [Memory.write]
    split
    · split
      · exact h
      · rename_i hak hb
        refine (Memory.wf_cons _ _ _).2 ⟨hb, ?_, h⟩
        intro c hc
        rcases List.mem_cons.1 hc with hc | hc
        · rw [hc]; exact hak
        · exact Nat.lt_trans hak (hk c hc)
    · split
      · rename_i hak
        split
        · exact hm
        · rename_i hb
          exact (Memory.wf_cons _ _ _).2 ⟨hb, fun c hc => hak ▸ hk c hc, hm⟩
      · rename_i h1 h2
        refine (Memory.wf_cons _ _ _).2 ⟨hv, ?_, ih hm⟩
        intro c hc
        rcases Memory.mem_write hc with hc | hc
        · exact hk c hc
        · rw [hc]; omega

/-- What a read gives after a write. -/
theorem Memory.read_write {m : Memory} (h : m.wf = true) (a x : Nat) (b : Byte) :
    Memory.read (m.write a b) x = if x = a then b else Memory.read m x := by
  induction m with
  | nil =>
    simp only [Memory.write]
    split
    · rename_i hb
      split
      · rename_i hx; subst hx; exact hb.symm
      · rfl
    · simp only [Memory.read]
  | cons d m ih =>
    obtain ⟨k, v⟩ := d
    obtain ⟨hv, hk, hm⟩ := (Memory.wf_cons k v m).1 h
    simp only [Memory.write]
    split
    · rename_i hak
      split
      · rename_i hb
        split
        · rename_i hx; subst hx
          rw [hb]
          apply Memory.read_below
          intro c hc
          rcases List.mem_cons.1 hc with hc | hc
          · rw [hc]; exact hak
          · exact Nat.lt_trans hak (hk c hc)
        · rfl
      · simp only [Memory.read]
    · split
      · rename_i hak
        subst hak
        split
        · rename_i hb
          split
          · rename_i hx; subst hx; rw [hb]; exact Memory.read_below hk
          · rename_i hx; simp only [Memory.read, if_neg hx]
        · simp only [Memory.read]
          split <;> rfl
      · rename_i h1 h2
        simp only [Memory.read]
        rw [ih hm]
        split
        · rename_i hx; subst hx; simp [Ne.symm h2]
        · rfl

/-- A write of lanes keeps the canonical form. -/
theorem Memory.wf_writeLanes {m : Memory} (h : m.wf = true) (off : Nat) (w : Word) (l : Lanes) :
    (m.writeLanes off w l).wf = true := by
  unfold Memory.writeLanes
  cases l.lo <;> cases l.hi <;> simp [h, Memory.wf_write]

/-- A write of a word keeps the canonical form. -/
theorem Memory.wf_writeWord {m : Memory} (h : m.wf = true) (off : Nat) (w : Word) : (m.writeWord off w).wf = true :=
  Memory.wf_writeLanes h off w _

/-- A write of words keeps the canonical form. -/
theorem Memory.wf_writeWords {m : Memory} (h : m.wf = true) (off : Nat) (ws : List Word) :
    (m.writeWords off ws).wf = true := by
  induction ws generalizing m off with
  | nil => exact h
  | cons w ws ih => exact ih (Memory.wf_writeWord h off w) _

/-- Past the staging blocks every word is 0 at reset (R194, Table 11-7). -/
theorem resetWord_past {a : Nat} (h : 0x0600 ≤ a) : resetWord a = 0 := by
  have hk : groupDefaultWords ((a - 0x0100) / 0x80) = [] := by
    obtain ⟨n, hn⟩ : ∃ n, (a - 0x0100) / 0x80 = n + 10 := ⟨(a - 0x0100) / 0x80 - 10, by omega⟩
    rw [hn]; rfl
  unfold resetWord
  rw [if_neg (by omega), hk]; rfl

end Sys2Proof.Machine
end

