-- ==== Sys2Proof/Laws/Position.lean ====
section
/-! SUPPORT. The Position Controller's shared operations: what each leaves in the block, and what it sends. -/

namespace Sys2Proof.Machine

open Sys2Proof

/-! ## Reports of the block's own state -/

@[simp] theorem setState_blk (st : PositionState) (w : W Pos) :
    (Pos.setState st w).blk =
      { w.blk with state := st, lossRun := if w.blk.state ≠ st ∧ st = .focused then 0 else w.blk.lossRun } := by
  unfold Pos.setState
  split
  · rename_i h; subst h; simp
  · rename_i h; simp [h]

@[simp] theorem setState_subs (st : PositionState) (w : W Pos) : (Pos.setState st w).subs = w.subs := by
  unfold Pos.setState; split <;> simp

@[simp] theorem setState_ans (st : PositionState) (w : W Pos) : (Pos.setState st w).ans = w.ans := by
  unfold Pos.setState; split <;> simp

/-- A change of the position state is reported; else nothing is sent (R40). -/
theorem setState_out (st : PositionState) (w : W Pos) :
    (Pos.setState st w).out = w.out ++
      (if w.blk.state = st then []
       else (if w.blk.state = .idle then [.positionLeavesIdle] else [])
         ++ [.defectNeighbourReport (.position st), .recoveryViewReport (.position st)]) := by
  unfold Pos.setState
  split
  · rename_i h; simp
  · rename_i h; simp

theorem mem_setState {i : Instr} {w : W Pos} (h : i ∈ w.out) (st : PositionState) : i ∈ (Pos.setState st w).out := by
  rw [setState_out]; exact List.mem_append_left _ h

@[simp] theorem setCounter_blk (c : Nat) (v : Bool) (w : W Pos) :
    (Pos.setCounter c v w).blk = { w.blk with counter := c, valid := v } := by
  unfold Pos.setCounter
  split
  · rename_i h; obtain ⟨h1, h2⟩ := h; subst h1 h2; rfl
  · simp

@[simp] theorem setCounter_subs (c : Nat) (v : Bool) (w : W Pos) : (Pos.setCounter c v w).subs = w.subs := by
  unfold Pos.setCounter; split <;> simp

@[simp] theorem setCounter_ans (c : Nat) (v : Bool) (w : W Pos) : (Pos.setCounter c v w).ans = w.ans := by
  unfold Pos.setCounter; split <;> simp

/-- A change of the counter or its flag is reported to its three readers (R61). -/
theorem setCounter_out (c : Nat) (v : Bool) (w : W Pos) :
    (Pos.setCounter c v w).out = w.out ++
      (if w.blk.counter = c ∧ w.blk.valid = v then []
       else [.defectNeighbourReport (.counter c v), .trackCounterReport c v, .recoveryViewReport (.counter c v)]) := by
  unfold Pos.setCounter; split <;> simp

theorem mem_setCounter {i : Instr} {w : W Pos} (h : i ∈ w.out) (c : Nat) (v : Bool) :
    i ∈ (Pos.setCounter c v w).out := by
  rw [setCounter_out]; exact List.mem_append_left _ h

/-- The counter and its flag after a step of d (R61). -/
def Pos.stepped (b : Pos) (d : Int) : Nat × Bool :=
  if (b.counter : Int) + d < 0 ∨ 65535 < (b.counter : Int) + d then (b.counter, false)
  else (((b.counter : Int) + d).toNat, b.valid)

theorem stepCounter_eq (d : Int) (w : W Pos) :
    Pos.stepCounter d w = Pos.setCounter (w.blk.stepped d).1 (w.blk.stepped d).2 w := by
  unfold Pos.stepCounter Pos.stepped; dsimp only; split <;> rfl

@[simp] theorem stepCounter_blk (d : Int) (w : W Pos) :
    (Pos.stepCounter d w).blk = { w.blk with counter := (w.blk.stepped d).1, valid := (w.blk.stepped d).2 } := by
  rw [stepCounter_eq, setCounter_blk]

@[simp] theorem stepCounter_subs (d : Int) (w : W Pos) : (Pos.stepCounter d w).subs = w.subs := by
  rw [stepCounter_eq, setCounter_subs]

theorem mem_stepCounter {i : Instr} {w : W Pos} (h : i ∈ w.out) (d : Int) : i ∈ (Pos.stepCounter d w).out := by
  rw [stepCounter_eq]; exact mem_setCounter h _ _

/-! ## The end of work -/

/-- What the end of the work in flight sends (R39): the completion of a command, the outcome of a numbered request. -/
def Pos.endSent (b : Pos) (r : Result) (o : Option StepOutcome) : List Instr :=
  match b.work with
  | some { kind := k, origin := .command tag code } =>
    [.completion { tag := tag, code := code, result := r, value := b.valueOf k }]
  | some { kind := _, origin := .recovery n } => (o.map (fun o => Instr.stepReport n o)).toList
  | _ => []

@[simp] theorem endWork_blk (r : Result) (o : Option StepOutcome) (w : W Pos) :
    (Pos.endWork r o w).blk = { w.blk with work := none } := by
  unfold Pos.endWork
  rcases hw : w.blk.work with _ | ⟨k, origin⟩
  · obtain ⟨b, _, _, _⟩ := w; cases b; simp_all
  · rcases origin <;> rcases o <;> simp

@[simp] theorem endWork_subs (r : Result) (o : Option StepOutcome) (w : W Pos) : (Pos.endWork r o w).subs = w.subs := by
  unfold Pos.endWork
  rcases hw : w.blk.work with _ | ⟨k, origin⟩
  · rfl
  · rcases origin <;> rcases o <;> simp

@[simp] theorem endWork_ans (r : Result) (o : Option StepOutcome) (w : W Pos) : (Pos.endWork r o w).ans = w.ans := by
  unfold Pos.endWork
  rcases hw : w.blk.work with _ | ⟨k, origin⟩
  · rfl
  · rcases origin <;> rcases o <;> simp

theorem endWork_out (r : Result) (o : Option StepOutcome) (w : W Pos) :
    (Pos.endWork r o w).out = w.out ++ w.blk.endSent r o := by
  unfold Pos.endWork Pos.endSent
  rcases hw : w.blk.work with _ | ⟨k, origin⟩
  · simp
  · rcases origin <;> rcases o <;> simp

@[simp] theorem interruptWork_blk (w : W Pos) : (Pos.interruptWork w).blk = { w.blk with work := none } :=
  endWork_blk _ _ _

@[simp] theorem interruptWork_subs (w : W Pos) : (Pos.interruptWork w).subs = w.subs := endWork_subs _ _ _

@[simp] theorem interruptWork_ans (w : W Pos) : (Pos.interruptWork w).ans = w.ans := endWork_ans _ _ _

theorem interruptWork_out (w : W Pos) : (Pos.interruptWork w).out = w.out ++ w.blk.endSent .interrupted none :=
  endWork_out _ _ _

/-! ## Requests -/

@[simp] theorem focusToOff_blk (w : W Pos) : (Pos.focusToOff w).blk = w.blk := rfl

@[simp] theorem focusToOff_out (w : W Pos) : (Pos.focusToOff w).out = w.out ++ [.positionRequest .focus .off] := rfl

@[simp] theorem focusToOff_subs (w : W Pos) : (Pos.focusToOff w).subs = w.subs := rfl

@[simp] theorem focusToOff_ans (w : W Pos) : (Pos.focusToOff w).ans = w.ans := rfl

@[simp] theorem trackToOff_blk (w : W Pos) : (Pos.trackToOff w).blk = w.blk := rfl

@[simp] theorem trackToOff_out (w : W Pos) : (Pos.trackToOff w).out = w.out ++ [.positionRequest .track .off] := rfl

@[simp] theorem trackToOff_subs (w : W Pos) : (Pos.trackToOff w).subs = w.subs := rfl

@[simp] theorem trackToOff_ans (w : W Pos) : (Pos.trackToOff w).ans = w.ans := rfl

@[simp] theorem releaseSled_blk (w : W Pos) : (Pos.releaseSled w).blk = w.blk := by simp [Pos.releaseSled]

theorem releaseSled_out (w : W Pos) : (Pos.releaseSled w).out = w.out
    ++ (if w.blk.sledDriven then [.sledRequest .toLoop] else [])
    ++ (if w.blk.inRun then [.seekTargetSend none] else []) := by
  simp [Pos.releaseSled]

@[simp] theorem releaseSled_subs (w : W Pos) : (Pos.releaseSled w).subs = w.subs := by simp [Pos.releaseSled]

@[simp] theorem releaseSled_ans (w : W Pos) : (Pos.releaseSled w).ans = w.ans := by simp [Pos.releaseSled]

@[simp] theorem dropRecords_blk (w : W Pos) : (Pos.dropRecords w).blk =
    { w.blk with search := none, pull := none, parkTimer := none, motion := none } := rfl

@[simp] theorem dropRecords_out (w : W Pos) : (Pos.dropRecords w).out = w.out := rfl

@[simp] theorem dropRecords_subs (w : W Pos) : (Pos.dropRecords w).subs = w.subs := rfl

@[simp] theorem dropRecords_ans (w : W Pos) : (Pos.dropRecords w).ans = w.ans := rfl

/-! ## The detectors of a set -/

/-- The block after the crossing detector's work at a set (R60, R61). -/
def Pos.detected (b : Pos) (x : SampleSet) : Pos :=
  let b1 := { b with mirror := b.mirrorOf x.rs, armed := b.armedAfter x.te }
  if b.crossingAt x.te then
    { b1 with lastDir := some (crossingDir (b.mirrorOf x.rs)),
              counter := (b.stepped (crossingDir (b.mirrorOf x.rs))).1,
              valid := (b.stepped (crossingDir (b.mirrorOf x.rs))).2 }
  else b1

@[simp] theorem detect_blk (x : SampleSet) (e : PosEnv) (w : W Pos) : (Pos.detect x e w).blk = w.blk.detected x := by
  simp only [Pos.detect, Pos.detected]
  split
  · rw [sendIf_blk, stepCounter_blk]; rfl
  · rfl

@[simp] theorem detect_subs (x : SampleSet) (e : PosEnv) (w : W Pos) : (Pos.detect x e w).subs = w.subs := by
  simp only [Pos.detect]
  split <;> simp

theorem mem_detect {i : Instr} {w : W Pos} (h : i ∈ w.out) (x : SampleSet) (e : PosEnv) :
    i ∈ (Pos.detect x e w).out := by
  simp only [Pos.detect]
  split
  · rw [sendIf_out]; exact List.mem_append_left _ (mem_stepCounter (by simpa using h) _)
  · simpa using h

/-- Where RS is above the loss level, focus is not lost (R46). -/
theorem lossStep_bright {x : SampleSet} {w : W Pos} (h : w.blk.views.focus = .closed → (w.blk.params.focusLoss : Int) < x.rs) :
    Pos.lossStep x w =
      (if lossStates w.blk.state && decide (w.blk.views.focus = .closed) then w.put { w.blk with lossRun := 0 } else w,
       false) := by
  unfold Pos.lossStep
  dsimp only
  split
  · rename_i hc
    have hf : w.blk.views.focus = .closed := by simp at hc; exact hc.2
    have := h hf
    rw [if_neg (by omega)]
  · rfl

/-! ## What the rules of the position states leave to the crossing detector -/

/-- Not a report of the track counter, and no track slip. -/
def offCounter : Instr → Bool
  | .condition .trackSlip => false
  | .defectNeighbourReport (.counter _ _) => false
  | .trackCounterReport _ _ => false
  | .recoveryViewReport (.counter _ _) => false
  | _ => true

/-- From w to w' the crossing detector, the track counter, the views and the parameters stay, and what is sent besides tells
nothing of the counter. -/
structure CounterKept (w w' : W Pos) : Prop where
  views : w'.blk.views = w.blk.views
  params : w'.blk.params = w.blk.params
  stamp : w'.blk.lastStamp = w.blk.lastStamp
  counter : w'.blk.counter = w.blk.counter
  valid : w'.blk.valid = w.blk.valid
  armed : w'.blk.armed = w.blk.armed
  mirror : w'.blk.mirror = w.blk.mirror
  lastDir : w'.blk.lastDir = w.blk.lastDir
  out : ∃ l, w'.out = w.out ++ l ∧ ∀ i ∈ l, offCounter i = true

namespace CounterKept

theorem refl (w : W Pos) : CounterKept w w := ⟨rfl, rfl, rfl, rfl, rfl, rfl, rfl, rfl, [], by simp, by simp⟩

theorem trans {u v w : W Pos} (h : CounterKept u v) (k : CounterKept v w) : CounterKept u w := by
  obtain ⟨l, hl, hl'⟩ := h.out
  obtain ⟨m, hm, hm'⟩ := k.out
  refine ⟨k.views.trans h.views, k.params.trans h.params, k.stamp.trans h.stamp, k.counter.trans h.counter,
    k.valid.trans h.valid, k.armed.trans h.armed, k.mirror.trans h.mirror, k.lastDir.trans h.lastDir,
    l ++ m, by rw [hm, hl, List.append_assoc], ?_⟩
  intro i hi
  rcases List.mem_append.1 hi with hi | hi
  · exact hl' i hi
  · exact hm' i hi

theorem sendAll {u w : W Pos} (h : CounterKept u w) {is : List Instr} (hi : ∀ i ∈ is, offCounter i = true) :
    CounterKept u (w.sendAll is) :=
  h.trans ⟨rfl, rfl, rfl, rfl, rfl, rfl, rfl, rfl, is, rfl, hi⟩

theorem send {u w : W Pos} (h : CounterKept u w) {i : Instr} (hi : offCounter i = true) : CounterKept u (w.send i) :=
  h.trans ⟨rfl, rfl, rfl, rfl, rfl, rfl, rfl, rfl, [i], rfl, by simpa using hi⟩

theorem sendIf {u w : W Pos} (h : CounterKept u w) (p : Bool) {i : Instr} (hi : offCounter i = true) :
    CounterKept u (w.sendIf p i) := by
  unfold W.sendIf; split
  · exact h.send hi
  · exact h

theorem note {u w : W Pos} (h : CounterKept u w) (k : SubStep) : CounterKept u (w.note k) :=
  h.trans ⟨rfl, rfl, rfl, rfl, rfl, rfl, rfl, rfl, [], by simp, by simp⟩

/-- A record of the block is set. -/
theorem put {u w : W Pos} (h : CounterKept u w) {b : Pos} (hv : b.views = w.blk.views := by rfl)
    (hp : b.params = w.blk.params := by rfl) (hs : b.lastStamp = w.blk.lastStamp := by rfl)
    (hc : b.counter = w.blk.counter := by rfl) (hf : b.valid = w.blk.valid := by rfl)
    (ha : b.armed = w.blk.armed := by rfl) (hm : b.mirror = w.blk.mirror := by rfl)
    (hd : b.lastDir = w.blk.lastDir := by rfl) : CounterKept u (w.put b) :=
  h.trans ⟨hv, hp, hs, hc, hf, ha, hm, hd, [], by simp, by simp⟩

theorem setState {u w : W Pos} (h : CounterKept u w) (st : PositionState) : CounterKept u (Pos.setState st w) := by
  refine h.trans ⟨by simp, by simp, by simp, by simp, by simp, by simp, by simp, by simp, _, setState_out st w, ?_⟩
  repeat' split
  all_goals simp [offCounter]

theorem endWork {u w : W Pos} (h : CounterKept u w) (r : Result) (o : Option StepOutcome) :
    CounterKept u (Pos.endWork r o w) := by
  refine h.trans ⟨by simp, by simp, by simp, by simp, by simp, by simp, by simp, by simp, _, endWork_out r o w, ?_⟩
  unfold Pos.endSent; split
  · simp [offCounter]
  · rcases o with _ | o <;> simp [offCounter]
  · simp

theorem releaseSled {u w : W Pos} (h : CounterKept u w) : CounterKept u (Pos.releaseSled w) :=
  .sendIf (.sendIf h _ rfl) _ rfl

theorem endMotion {u w : W Pos} (h : CounterKept u w) (st : PositionState) (r : Result) (o : Option StepOutcome) :
    CounterKept u (Pos.endMotion st r o w) :=
  .setState (.put (h.endWork r o)) st

theorem failMotion {u w : W Pos} (h : CounterKept u w) (st : PositionState) : CounterKept u (Pos.failMotion st w) :=
  .sendIf (h.endMotion st _ _) _ rfl

theorem startJump {u w : W Pos} (h : CounterKept u w) (m : Motion) (n : Int) (t : Option Int) :
    CounterKept u (Pos.startJump m n t w) :=
  .send (.setState (.put h) _) rfl

theorem startRun {u w : W Pos} (h : CounterKept u w) (m : Motion) (e : PosEnv) : CounterKept u (Pos.startRun m e w) :=
  .sendAll (.setState (.put h) _) (by simp [offCounter])

theorem startLanding {u w : W Pos} (h : CounterKept u w) (m : Motion) : CounterKept u (Pos.startLanding m w) :=
  .setState (.put h) _

theorem endSledBrake {u w : W Pos} (h : CounterKept u w) (m : Motion) : CounterKept u (Pos.endSledBrake m w) :=
  .note (.startLanding (.sendAll h (by simp [offCounter])) m) _

theorem startSledBrake {u w : W Pos} (h : CounterKept u w) (m : Motion) (e : PosEnv) :
    CounterKept u (Pos.startSledBrake m e w) := by
  unfold Pos.startSledBrake; dsimp only; split
  · exact .endSledBrake (.send (.setState (.put h) _) rfl) _
  · exact .send (.setState (.put h) _) rfl

theorem compare {u w : W Pos} (h : CounterKept u w) (m : Motion) (t : Int) (e : PosEnv) :
    CounterKept u (Pos.compare m t e w) := by
  unfold Pos.compare; dsimp only
  repeat' split
  all_goals first | exact h.failMotion _ | exact h.endMotion _ _ _ | exact h.startJump _ _ _ | exact h.startRun _ _

theorem completeLanding {u w : W Pos} (h : CounterKept u w) (m : Motion) (e : PosEnv) :
    CounterKept u (Pos.completeLanding m e w) := by
  unfold Pos.completeLanding; dsimp only
  apply CounterKept.note
  repeat' split
  all_goals first | exact h.compare _ _ _ | exact h.endMotion _ _ _

theorem endPark {u w : W Pos} (h : CounterKept u w) (r : Result) : CounterKept u (Pos.endPark r w) :=
  .setState (.put (.endWork (.send h rfl) r none)) _

theorem loseFocus {u w : W Pos} (h : CounterKept u w) : CounterKept u (Pos.loseFocus w) :=
  .note (.setState (.put (.put (.releaseSled (.send (.endWork (.send h rfl) _ _) rfl)))) _) _

theorem lossStep {u w : W Pos} (h : CounterKept u w) (x : SampleSet) : CounterKept u (Pos.lossStep x w).1 := by
  unfold Pos.lossStep; dsimp only
  repeat' split
  · exact .loseFocus (.put h)
  · exact .put h
  · exact .put h
  · exact h

theorem searchSet {u w : W Pos} (h : CounterKept u w) (x : SampleSet) : CounterKept u (Pos.searchSet x w) := by
  unfold Pos.searchSet; split
  · exact h
  · split
    · exact .setState (.send (.put h) rfl) _
    · unfold Pos.searchStep; dsimp only
      repeat' split
      · exact .send (.put h) rfl
      · exact .send (.put h) rfl
      · exact .setState (.put (.endWork (.send h rfl) _ _)) _

theorem lockingSet {u w : W Pos} (h : CounterKept u w) (x : SampleSet) : CounterKept u (Pos.lockingSet x w) := by
  unfold Pos.lockingSet; dsimp only
  split
  · exact .put h
  · have hl : ∀ v, CounterKept u v → CounterKept u (Pos.lockFocus v) := fun v hv =>
      .note (.setState (.put (.endWork hv _ _)) _) _
    have ha : ∀ r v, CounterKept u v → CounterKept u (Pos.abandonClosure r v) := fun r v hv =>
      .note (.setState (.send (.put hv) rfl) _) _
    repeat' split
    all_goals first | exact hl _ (.put h) | exact ha _ _ (.put h) | exact .put h
  · exact h

theorem closeTracking {u w : W Pos} (h : CounterKept u w) (p : Bool) : CounterKept u (Pos.closeTracking p w) := by
  unfold Pos.closeTracking; split
  · exact .note (.send h rfl) _
  · exact h

theorem pullInSet {u w : W Pos} (h : CounterKept u w) (x : SampleSet) (c : Bool) : CounterKept u (Pos.pullInSet x c w) := by
  unfold Pos.pullInSet; split
  · exact h
  · dsimp only
    split
    · exact .note (.setState (.put (.endWork (.closeTracking (.put h) _) _ _)) _) _
    · split
      · exact .note (.setState (.put (.endWork (.send (.closeTracking (.put h) _) rfl) _ _)) _) _
      · exact .closeTracking (.put h) _

theorem parkSet {u w : W Pos} (h : CounterKept u w) (e : PosEnv) : CounterKept u (Pos.parkSet e w) := by
  unfold Pos.parkSet; dsimp only
  repeat' split
  · exact h.endPark _
  · exact .note (h.endPark _) _
  · exact .put h

theorem endJumpBrake {u w : W Pos} (h : CounterKept u w) (m : Motion) : CounterKept u (Pos.endJumpBrake m w) :=
  .note (.startLanding (.send h rfl) m) _

theorem endKick {u w : W Pos} (h : CounterKept u w) (m : Motion) : CounterKept u (Pos.endKick m w) := by
  unfold Pos.endKick; dsimp only; split
  · exact .endJumpBrake (.note (.send (.put h) rfl) _) _
  · exact .note (.send (.put h) rfl) _

theorem checkJumpTimer {u w : W Pos} (h : CounterKept u w) : CounterKept u (Pos.checkJumpTimer w) := by
  unfold Pos.checkJumpTimer
  repeat' split
  · exact h
  · exact h
  · exact .note (.startLanding (.send h rfl) _) _
  · exact h

theorem jumpSet {u w : W Pos} (h : CounterKept u w) (dir : Option Int) (m : Motion) :
    CounterKept u (Pos.jumpSet dir m w) := by
  unfold Pos.jumpSet; dsimp only
  apply checkJumpTimer
  repeat' split
  all_goals first | exact .endKick h _ | exact .endJumpBrake h _ | exact .put h

theorem runSet {u w : W Pos} (h : CounterKept u w) (c : Bool) (e : PosEnv) (m : Motion) :
    CounterKept u (Pos.runSet c e m w) := by
  unfold Pos.runSet; split
  · exact h.startSledBrake _ _
  · exact h

theorem sledBrakeSet {u w : W Pos} (h : CounterKept u w) (e : PosEnv) (m : Motion) :
    CounterKept u (Pos.sledBrakeSet e m w) := by
  unfold Pos.sledBrakeSet; dsimp only; split
  · exact h.endSledBrake _
  · exact .put h

theorem startSettle {u w : W Pos} (h : CounterKept u w) (m : Motion) (e : PosEnv) :
    CounterKept u (Pos.startSettle m e w) := by
  unfold Pos.startSettle; dsimp only; split
  · exact .completeLanding (.note (.put h) _) _ _
  · exact .note (.put h) _

theorem timeOutCatch {u w : W Pos} (h : CounterKept u w) (m : Motion) : CounterKept u (Pos.timeOutCatch m w) := by
  unfold Pos.timeOutCatch; dsimp only
  apply CounterKept.note
  split
  · exact .failMotion (.send h rfl) _
  · exact .endMotion (.send h rfl) _ _ _

theorem catchSet {u w : W Pos} (h : CounterKept u w) (x : SampleSet) (c : Bool) (e : PosEnv) (m : Motion) :
    CounterKept u (Pos.catchSet x c e m w) := by
  unfold Pos.catchSet; split
  · exact h
  · dsimp only
    repeat' split
    · exact .startSettle (.closeTracking (.put h) _) _ _
    · exact .timeOutCatch (.closeTracking (.put h) _) _
    · exact .closeTracking (.put h) _

theorem settleSet {u w : W Pos} (h : CounterKept u w) (e : PosEnv) (m : Motion) : CounterKept u (Pos.settleSet e m w) := by
  unfold Pos.settleSet; dsimp only; split
  · exact .completeLanding (.put h) _ _
  · exact .put h

theorem checkSeekTimer {u w : W Pos} (h : CounterKept u w) : CounterKept u (Pos.checkSeekTimer w) := by
  unfold Pos.checkSeekTimer
  repeat' split
  · exact h
  · unfold Pos.timeOutSeek; dsimp only
    apply CounterKept.note
    split
    · exact h.failMotion _
    · exact .failMotion (.releaseSled (.send h rfl)) _
  · exact h

theorem motionSet {u w : W Pos} (h : CounterKept u w) (x : SampleSet) (dir : Option Int) (e : PosEnv) (m : Motion) :
    CounterKept u (Pos.motionSet x dir e m w) := by
  unfold Pos.motionSet; dsimp only
  apply checkSeekTimer
  split
  · exact .jumpSet (.put h) _ _
  · exact .jumpSet (.put h) _ _
  · exact .runSet (.put h) _ _ _
  · exact .sledBrakeSet (.put h) _ _
  · exact .catchSet (.put h) _ _ _ _
  · exact .settleSet (.put h) _ _

/-- The rules of a position state leave the crossing detector and the counter to the detector's own work (R60, R61). -/
theorem stateSet {u w : W Pos} (h : CounterKept u w) (x : SampleSet) (dir : Option Int) (e : PosEnv) :
    CounterKept u (Pos.stateSet x dir e w) := by
  unfold Pos.stateSet; split
  · exact h.searchSet x
  · exact h.lockingSet x
  · exact h.pullInSet x _
  · exact h.parkSet e
  · exact h.motionSet x dir e _
  · exact h

end CounterKept

/-- After the crossing detector's own work a set leaves its registers and the counter, the previous FE apart (R40, R60, R61). -/
theorem counterKept_takeSet (x : SampleSet) (e : PosEnv) (b : Pos) :
    CounterKept (Pos.detect x e (W.start { b with lastStamp := x.stamp })) (Pos.takeSet x e b)
      ∧ (Pos.takeSet x e b).blk.prevFe = some x.fe := by
  refine ⟨?_, rfl⟩
  unfold Pos.takeSet; dsimp only
  have h1 := (CounterKept.refl (Pos.detect x e (W.start { b with lastStamp := x.stamp }))).lossStep x
  split
  · exact .put h1
  · exact .put (h1.stateSet x _ e)

end Sys2Proof.Machine
end

