-- ==== Sys2Proof/Laws/Queue.lean ====
section
/-! SUPPORT. The Command Queue's shared operations: what a group's report does, and to which APPLY PARAMETERS it counts. -/

namespace Sys2Proof.Machine

open Sys2Proof

/-- A report to a flushed APPLY PARAMETERS counts for nothing (R186). -/
theorem groupReported_stale {s : State} {g : GroupPart} (h : g ∈ s.cq.stale) (n : Nat) :
    s.groupReported g n = { s with cq := { s.cq with stale := s.cq.stale.erase g } } := if_pos h

/-- With no APPLY PARAMETERS in progress that awaits it a report counts for nothing. -/
theorem groupReported_unawaited {s : State} {g : GroupPart} (hs : g ∉ s.cq.stale)
    (h : ∀ a, s.cq.applying = some a → g ∉ a.awaited) (n : Nat) : s.groupReported g n = s := by
  unfold State.groupReported State.reportCounted; rw [if_neg hs]; split
  · rfl
  · exact if_neg (h _ (by assumption))

/-- An awaited report is counted, and the command waits for the rest. -/
theorem groupReported_counts {s : State} {a : Applying} {g : GroupPart} (hs : g ∉ s.cq.stale) (h : s.cq.applying = some a)
    (hg : g ∈ a.awaited) (hr : a.awaited.erase g ≠ []) (n : Nat) :
    s.groupReported g n =
      { s with cq := { s.cq with applying := some { awaited := a.awaited.erase g, sum := a.sum + n } } } := by
  simp [State.groupReported, State.reportCounted, hs, h, hg, hr]

/-- The last awaited report completes the command with the sum. -/
theorem groupReported_last {s : State} {a : Applying} {g : GroupPart} (hs : g ∉ s.cq.stale) (h : s.cq.applying = some a)
    (hg : g ∈ a.awaited) (hr : a.awaited.erase g = []) (n : Nat) : s.groupReported g n = s.finishApply (a.sum + n) := by
  simp [State.groupReported, State.reportCounted, hs, h, hg, hr]

/-- What a flush leaves is never counted for the next command: every report then awaited is stale. -/
theorem staleAfter_applying {q : CmdQueue} {a : Applying} (h : q.applying = some a) : q.staleAfter = q.stale ++ a.awaited := by
  simp [CmdQueue.staleAfter, h]

end Sys2Proof.Machine
end

