-- ==== Sys2Proof/Laws/Spindle.lean ====
section
/-! SUPPORT. The Spindle Controller's shared operations: what the end of an event leaves as the event's own work left it. -/

namespace Sys2Proof.Machine

open Sys2Proof

/-- The work of `w` with its own effects kept in `v`: only the group, the loop values it clamps, the timers, the brake drive
and the pattern in force may have changed, and nothing sent or noted is lost. -/
structure SpinKept (w v : W Spin) : Prop where
  state : v.blk.state = w.blk.state
  hall : v.blk.hall = w.blk.hall
  lastDir : v.blk.lastDir = w.blk.lastDir
  edges : v.blk.edges = w.blk.edges
  origin : v.blk.origin = w.blk.origin
  refTime : v.blk.refTime = w.blk.refTime
  interval : v.blk.interval = w.blk.interval
  history : v.blk.history = w.blk.history
  phase : v.blk.phase = w.blk.phase
  edgeTime : v.blk.edgeTime = w.blk.edgeTime
  rev : v.blk.rev = w.blk.rev
  target : v.blk.target = w.blk.target
  stopKind : v.blk.stopKind = w.blk.stopKind
  clvTrack : v.blk.clvTrack = w.blk.clvTrack
  seekTarget : v.blk.seekTarget = w.blk.seekTarget
  pMeas : v.blk.pMeas = w.blk.pMeas
  pTarget : v.blk.pTarget = w.blk.pTarget
  err : v.blk.err = w.blk.err
  inRun : v.blk.inRun = w.blk.inRun
  outRun : v.blk.outRun = w.blk.outRun
  work : v.blk.work = w.blk.work
  respin : v.blk.respin = w.blk.respin
  views : v.blk.views = w.blk.views
  out : ∀ i ∈ w.out, i ∈ v.out
  subs : v.subs = w.subs
  ans : v.ans = w.ans

theorem SpinKept.refl (w : W Spin) : SpinKept w w := by
  constructor <;> first | rfl | exact fun _ h => h

theorem SpinKept.trans {u v w : W Spin} (h : SpinKept u v) (k : SpinKept v w) : SpinKept u w := by
  constructor
  case out => exact fun i hi => k.out i (h.out i hi)
  all_goals first
    | exact k.state.trans h.state
    | exact k.hall.trans h.hall
    | exact k.lastDir.trans h.lastDir
    | exact k.edges.trans h.edges
    | exact k.origin.trans h.origin
    | exact k.refTime.trans h.refTime
    | exact k.interval.trans h.interval
    | exact k.history.trans h.history
    | exact k.phase.trans h.phase
    | exact k.edgeTime.trans h.edgeTime
    | exact k.rev.trans h.rev
    | exact k.target.trans h.target
    | exact k.stopKind.trans h.stopKind
    | exact k.clvTrack.trans h.clvTrack
    | exact k.seekTarget.trans h.seekTarget
    | exact k.pMeas.trans h.pMeas
    | exact k.pTarget.trans h.pTarget
    | exact k.err.trans h.err
    | exact k.inRun.trans h.inRun
    | exact k.outRun.trans h.outRun
    | exact k.work.trans h.work
    | exact k.respin.trans h.respin
    | exact k.views.trans h.views
    | exact k.subs.trans h.subs
    | exact k.ans.trans h.ans

theorem spinKept_applyGroup (times : Nat) (img : Memory) (w : W Spin) :
    SpinKept w (Spin.applyGroup times img w) := by
  constructor <;> first | rfl | exact fun _ h => by simp [Spin.applyGroup, h]

theorem spinKept_applyWaiting (img : Memory) (w : W Spin) : SpinKept w (Spin.applyWaiting img w) := by
  unfold Spin.applyWaiting; split
  · exact SpinKept.refl _
  · exact spinKept_applyGroup _ _ _

/-- No group waits: nothing is applied. -/
theorem applyWaiting_idle {w : W Spin} (h : w.blk.awaiting = 0) (img : Memory) : Spin.applyWaiting img w = w := by
  simp [Spin.applyWaiting, h]

/-- A group that waits is applied, and reported once for each time it was handed over. -/
theorem applyWaiting_due {w : W Spin} (h : w.blk.awaiting ≠ 0) (img : Memory) :
    Spin.applyWaiting img w = Spin.applyGroup w.blk.awaiting img w := by
  simp [Spin.applyWaiting, h]

theorem spinKept_deliver (w : W Spin) : SpinKept w (Spin.deliver w) := by
  constructor <;> first | rfl | exact fun _ h => by simp [Spin.deliver, h]

/-- The group of a looping spindle that is left is applied (R129). -/
def Spin.settleGroup (b0 : Spin) (img : Memory) (w : W Spin) : W Spin :=
  if isLooping b0.state && !isLooping w.blk.state then Spin.applyWaiting img w else w

/-- Timers that do not run are absent (R117, R122). -/
def Spin.settleTimers (w : W Spin) : W Spin :=
  w.put { w.blk with brakeDrive := w.blk.brakeDrive && decide (w.blk.state = .braking),
                     brakeTimer := if w.blk.state = .braking then w.blk.brakeTimer else none,
                     stallTimer := if isRunning w.blk.state then some (w.blk.stallTimer.getD 0) else none }

/-- The pattern is delivered at an edge and at each change that it follows (R111). -/
def Spin.settleDrive (b0 : Spin) (edge : Bool) (w : W Spin) : W Spin :=
  if edge || decide (w.blk.state ≠ b0.state) || decide (w.blk.duty ≠ b0.duty) || decide (w.blk.brakeDrive ≠ b0.brakeDrive)
      || decide (w.blk.views.loading ≠ b0.views.loading) then Spin.deliver w
  else w

/-- The stop timer (R121, R122). -/
def Spin.settleStop (b0 : Spin) (edge : Bool) (w : W Spin) : W Spin :=
  w.put { w.blk with stopTimer :=
    if w.blk.stopRuns then
      (if edge || (b0.brakeDrive && !w.blk.brakeDrive && decide (w.blk.state = .braking)) || !b0.stopRuns then some 0
       else some (w.blk.stopTimer.getD 0))
    else none }

/-- A change of the state is reported (R116). -/
def Spin.settleReport (b0 : Spin) (w : W Spin) : W Spin :=
  if w.blk.state = b0.state then w
  else w.sendAll [.neighbourReport (.spindle w.blk.state), .loadingViewReport (.spindle w.blk.state),
                  .recoveryViewReport (.spindle w.blk.state)]

theorem settle_eq (b0 : Spin) (edge : Bool) (img : Memory) (w : W Spin) :
    Spin.settle b0 edge img w =
      Spin.settleReport b0 (Spin.settleStop b0 edge (Spin.settleDrive b0 edge (Spin.settleTimers
        (Spin.settleGroup b0 img w)))) := rfl

/-- The end of an event keeps the event's own work (R111, R116, R121, R129). -/
theorem spinKept_settle (b0 : Spin) (edge : Bool) (img : Memory) (w : W Spin) :
    SpinKept w (Spin.settle b0 edge img w) := by
  rw [settle_eq]
  have h1 : SpinKept w (Spin.settleGroup b0 img w) := by
    unfold Spin.settleGroup; split
    · exact spinKept_applyWaiting _ _
    · exact SpinKept.refl _
  have h2 (w : W Spin) : SpinKept w (Spin.settleTimers w) := by constructor <;> first | rfl | exact fun _ h => h
  have h3 (w : W Spin) : SpinKept w (Spin.settleDrive b0 edge w) := by
    unfold Spin.settleDrive; split
    · exact spinKept_deliver _
    · exact SpinKept.refl _
  have h4 (w : W Spin) : SpinKept w (Spin.settleStop b0 edge w) := by constructor <;> first | rfl | exact fun _ h => h
  have h5 (w : W Spin) : SpinKept w (Spin.settleReport b0 w) := by
    unfold Spin.settleReport; split
    · exact SpinKept.refl _
    · constructor <;> first | rfl | exact fun _ h => by simp [h]
  exact (((h1.trans (h2 _)).trans (h3 _)).trans (h4 _)).trans (h5 _)

/-- A loop that the event left with integrator and duty 0 stays so. -/
theorem settle_zero {b0 : Spin} {edge : Bool} {img : Memory} {w : W Spin} (hi : w.blk.integ = 0) (hd : w.blk.duty = 0) :
    (Spin.settle b0 edge img w).blk.integ = 0 ∧ (Spin.settle b0 edge img w).blk.duty = 0 := by
  have h1 : (Spin.settleGroup b0 img w).blk.integ = 0 ∧ (Spin.settleGroup b0 img w).blk.duty = 0 := by
    unfold Spin.settleGroup Spin.applyWaiting; split
    · split
      · exact ⟨hi, hd⟩
      · simp only [Spin.applyGroup, sendAll_blk, put_blk, hi, hd]
        have : clampAbs (stagedSpindleParams img).1.limit 0 = 0 := by
          unfold clampAbs clamp; split
          · omega
          · split <;> omega
        exact ⟨this, this⟩
    · exact ⟨hi, hd⟩
  rw [settle_eq]
  have h5 (w : W Spin) : (Spin.settleReport b0 w).blk = w.blk := by unfold Spin.settleReport; split <;> rfl
  have h3 (w : W Spin) : (Spin.settleDrive b0 edge w).blk.integ = w.blk.integ
      ∧ (Spin.settleDrive b0 edge w).blk.duty = w.blk.duty := by unfold Spin.settleDrive; split <;> exact ⟨rfl, rfl⟩
  rw [h5]
  exact ⟨(h3 _).1.trans h1.1, (h3 _).2.trans h1.2⟩

/-! ## The angle valid flag and the enable requests -/

/-- No report of the angle valid flag, and no request to clear the spindle enable. -/
def offAngle : Instr → Bool
  | .defectNeighbourReport (.angleValid _) => false
  | .holdSourceReport (.angleValid _) => false
  | .spindleEnableRequest false => false
  | _ => true

/-- From w to v the origin and the latest interval stay, and what is sent besides tells nothing of the angle and clears no
enable. -/
structure AngleKept (w v : W Spin) : Prop where
  origin : v.blk.origin = w.blk.origin
  interval : v.blk.interval = w.blk.interval
  out : ∃ l, v.out = w.out ++ l ∧ ∀ i ∈ l, offAngle i = true

namespace AngleKept

theorem refl (w : W Spin) : AngleKept w w := ⟨rfl, rfl, [], by simp, by simp⟩

theorem trans {u v w : W Spin} (h : AngleKept u v) (k : AngleKept v w) : AngleKept u w := by
  obtain ⟨l, hl, hl'⟩ := h.out
  obtain ⟨m, hm, hm'⟩ := k.out
  refine ⟨k.origin.trans h.origin, k.interval.trans h.interval, l ++ m, by rw [hm, hl, List.append_assoc], ?_⟩
  intro i hi
  rcases List.mem_append.1 hi with hi | hi
  · exact hl' i hi
  · exact hm' i hi

theorem sendAll {u w : W Spin} (h : AngleKept u w) {is : List Instr} (hi : ∀ i ∈ is, offAngle i = true) :
    AngleKept u (w.sendAll is) :=
  h.trans ⟨rfl, rfl, is, rfl, hi⟩

theorem send {u w : W Spin} (h : AngleKept u w) {i : Instr} (hi : offAngle i = true) : AngleKept u (w.send i) :=
  h.trans ⟨rfl, rfl, [i], rfl, by simpa using hi⟩

theorem note {u w : W Spin} (h : AngleKept u w) (k : SubStep) : AngleKept u (w.note k) :=
  h.trans ⟨rfl, rfl, [], by simp, by simp⟩

theorem put {u w : W Spin} (h : AngleKept u w) {b : Spin} (ho : b.origin = w.blk.origin := by rfl)
    (hi : b.interval = w.blk.interval := by rfl) : AngleKept u (w.put b) :=
  h.trans ⟨ho, hi, [], by simp, by simp⟩

theorem upd {u w : W Spin} (h : AngleKept u w) {f : Spin → Spin} (ho : (f w.blk).origin = w.blk.origin)
    (hi : (f w.blk).interval = w.blk.interval) : AngleKept u (w.upd f) :=
  h.trans ⟨ho, hi, [], by simp, by simp⟩

theorem endWork {u w : W Spin} (h : AngleKept u w) (r : Result) : AngleKept u (Spin.endWork r w) := by
  unfold Spin.endWork; split
  · exact h
  · exact .send (.put h) rfl

theorem endSpin {u w : W Spin} (h : AngleKept u w) (r : Result) : AngleKept u (Spin.endSpin r w) := by
  unfold Spin.endSpin; split
  · exact h
  · split
    · exact h
    · exact h.endWork r

theorem applyGroup {u w : W Spin} (h : AngleKept u w) (n : Nat) (img : Memory) : AngleKept u (Spin.applyGroup n img w) :=
  .sendAll (.put h) (by intro i hi; rw [List.eq_of_mem_replicate hi]; rfl)

theorem applyWaiting {u w : W Spin} (h : AngleKept u w) (img : Memory) : AngleKept u (Spin.applyWaiting img w) := by
  unfold Spin.applyWaiting; split
  · exact h
  · exact h.applyGroup _ _

theorem enterRegulating {u w : W Spin} (h : AngleKept u w) : AngleKept u (Spin.enterRegulating w) := by
  have h2 : AngleKept u (match ((w.put { w.blk with state := .regulating, inRun := 0, outRun := 0 }).note
      .regulationEntry).blk.work with
      | none => (w.put { w.blk with state := .regulating, inRun := 0, outRun := 0 }).note .regulationEntry
      | some k => Spin.endSpin (if k.clamped then .okClamped else .ok)
          ((w.put { w.blk with state := .regulating, inRun := 0, outRun := 0 }).note .regulationEntry)) := by
    split
    · exact .note (.put h) _
    · exact .endSpin (.note (.put h) _) _
  unfold Spin.enterRegulating; dsimp only
  split
  · exact h2
  · exact .send (.put h2) rfl

theorem runWindow {u w : W Spin} (h : AngleKept u w) : AngleKept u (Spin.runWindow w) := by
  unfold Spin.runWindow; dsimp only
  repeat' split
  all_goals first | exact h.enterRegulating | exact .note (.put h) _ | exact .put h | exact h

theorem speedUpdate {u w : W Spin} (h : AngleKept u w) (img : Memory) : AngleKept u (Spin.speedUpdate img w) := by
  have hf : ∀ b : Spin, (Spin.formTarget b).origin = b.origin ∧ (Spin.formTarget b).interval = b.interval := by
    intro b; unfold Spin.formTarget; split <;> exact ⟨rfl, rfl⟩
  have h2 : AngleKept u (((Spin.applyWaiting img w).upd
      (fun b => Spin.formTarget { b with phase := 0, pMeas := 4 * b.history.sum })).note .speedUpdate) :=
    .note (.upd (h.applyWaiting img) (by show (Spin.formTarget _).origin = _; exact (hf _).1)
      (by show (Spin.formTarget _).interval = _; exact (hf _).2)) _
  unfold Spin.speedUpdate; dsimp only
  split
  · exact .runWindow (.upd h2 rfl rfl)
  · exact .runWindow (.upd h2 rfl rfl)
  · exact .runWindow (.upd h2 rfl rfl)
  · exact h2

theorem edgeRules {u w : W Spin} (h : AngleKept u w) (dir : EdgeDir) : AngleKept u (w.upd (Spin.edgeRules dir)) := by
  refine .upd h ?_ ?_ <;> (unfold Spin.edgeRules; repeat' split) <;> rfl

/-- The end of an event tells nothing of the angle and clears no enable (R111, R116, R129). -/
theorem settle {u w : W Spin} (h : AngleKept u w) (b0 : Spin) (edge : Bool) (img : Memory) :
    AngleKept u (Spin.settle b0 edge img w) := by
  rw [settle_eq]
  have h1 : AngleKept u (Spin.settleGroup b0 img w) := by
    unfold Spin.settleGroup; split
    · exact h.applyWaiting img
    · exact h
  have h3 {v : W Spin} (k : AngleKept u v) : AngleKept u (Spin.settleDrive b0 edge v) := by
    unfold Spin.settleDrive; split
    · exact .send (.put k) rfl
    · exact k
  have h5 {v : W Spin} (k : AngleKept u v) : AngleKept u (Spin.settleReport b0 v) := by
    unfold Spin.settleReport; split
    · exact k
    · exact .sendAll k (by simp [offAngle])
  exact h5 (.put (h3 (.put h1)))

end AngleKept

/-- What a change of the angle valid flag sends, since `b0` (R110). -/
theorem reportAngle_out (b0 : Spin) (w : W Spin) : (Spin.reportAngle b0 w).out = w.out ++
    (if w.blk.angleValid = b0.angleValid then []
     else [.defectNeighbourReport (.angleValid w.blk.angleValid), .holdSourceReport (.angleValid w.blk.angleValid)]) := by
  unfold Spin.reportAngle; split <;> simp

theorem reportAngle_blk (b0 : Spin) (w : W Spin) : (Spin.reportAngle b0 w).blk = w.blk := by
  unfold Spin.reportAngle; split <;> rfl

/-! ## A group that waits -/

/-- The state after an event is the one that the event's own work left. -/
theorem settle_state (b0 : Spin) (edge : Bool) (img : Memory) (w : W Spin) :
    (Spin.settle b0 edge img w).blk.state = w.blk.state := (spinKept_settle b0 edge img w).state

/-- A group that waits is applied and reported at the event that leaves SLEWING and REGULATING (R129). -/
theorem settle_left {b0 : Spin} {w : W Spin} (h0 : isLooping b0.state = true) (h1 : isLooping w.blk.state = false)
    (ha : w.blk.awaiting ≠ 0) (edge : Bool) (img : Memory) :
    (Spin.settle b0 edge img w).blk.params = (stagedSpindleParams img).1 ∧ (Spin.settle b0 edge img w).blk.awaiting = 0
      ∧ .groupAppliedReport .spindle (stagedSpindleParams img).2 ∈ (Spin.settle b0 edge img w).out := by
  have hg : Spin.settleGroup b0 img w = Spin.applyGroup w.blk.awaiting img w := by
    simp [Spin.settleGroup, h0, h1, applyWaiting_due ha]
  rw [settle_eq, hg]
  have hm : .groupAppliedReport .spindle (stagedSpindleParams img).2 ∈ (Spin.applyGroup w.blk.awaiting img w).out := by
    simp [Spin.applyGroup, groupReports, List.mem_replicate, ha]
  have h3 (v : W Spin) : (Spin.settleDrive b0 edge v).blk.params = v.blk.params
      ∧ (Spin.settleDrive b0 edge v).blk.awaiting = v.blk.awaiting ∧ ∀ i ∈ v.out, i ∈ (Spin.settleDrive b0 edge v).out := by
    unfold Spin.settleDrive; split
    · exact ⟨rfl, rfl, fun _ h => by simp [Spin.deliver, h]⟩
    · exact ⟨rfl, rfl, fun _ h => h⟩
  have h5 (v : W Spin) : (Spin.settleReport b0 v).blk = v.blk ∧ ∀ i ∈ v.out, i ∈ (Spin.settleReport b0 v).out := by
    unfold Spin.settleReport; split
    · exact ⟨rfl, fun _ h => h⟩
    · exact ⟨rfl, fun _ h => by simp [h]⟩
  rw [(h5 _).1]
  exact ⟨(h3 _).1, (h3 _).2.1, (h5 _).2 _ ((h3 _).2.2 _ hm)⟩

end Sys2Proof.Machine
end

