-- ==== Sys2Proof/Safety.lean ====
section
/-! DEFINITION. What a safe run is: a step gives a next state, and the invariants that every step keeps. -/

namespace Sys2Proof

open Machine

/-- The step at s gives a next state: neither a fault nor a refusal. -/
def CanStep (s : State) : Prop := ∃ t, step s = .next t

/-- The ring of the Trace Capture Unit stays within its 256 positions (R191, R192): while records after the trigger are
still due, they fit behind the valid ones. -/
def Machine.Capture.fits (b : Capture) : Prop :=
  b.params.pre ≤ 255 ∧ b.valid ≤ 256 ∧ (b.state = .triggered → ∃ p, b.post = some p ∧ 1 ≤ p ∧ b.valid + p ≤ 256)

/-- The buffers, queues and counters stay within what the spec gives them: the images and the capture buffer in their
canonical form, at most 8 queued commands (R181), 16 completion records and an index of one of them (R184), at most 32
entries in the Defect Map (R83), the track counter in 0..65535 (R61), the edge counter in 0..65519 (R108), the temperature
band in 0..5 (R31), the capture ring (R191), the attempts of an active plan within R.BUDGET (R137), a forward spindle drive
only while the loading state last reported is LOADED (R111), at most six intervals in the history and an update phase below 6
(R109, R112), and no window open while the detector is OPEN that has not seen the defect (R80, R89). -/
structure Bounded (s : State) : Prop where
  image : s.bus.image.wf = true
  buffer : s.cap.buffer.wf = true
  queue : s.cq.queue.length ≤ 8
  ring : s.cq.ring.length = 16
  index : s.cq.writeIndex < 16
  map : s.defect.map.length ≤ 32
  counter : s.pos.counter ≤ 65535
  edges : s.spin.edges < 65520
  band : s.loop.band ≤ 5
  capture : Capture.fits s.cap
  attempts : s.recov.state = .active → s.recov.attempts ≤ s.recov.params.budget
  forward : ∀ h, s.spin.pattern = .forward h → 0 < s.spin.magnitude → s.spin.views.loading = .loaded
  history : s.spin.history.length ≤ 6
  phase : s.spin.phase < 6
  seen : s.defect.det = .opened → ∀ v, s.defect.window = some v → v.seen = true

/-- Entry e stands before entry d in the order of the Defect Map (R83). -/
def Machine.Entry.below (e d : Entry) : Prop := e.track < d.track ∨ e.track = d.track ∧ e.start < d.start

/-- The span of entry e covers angle unit a (R83). -/
def Machine.Entry.covers (e : Entry) (a : Nat) : Prop := (a + (6144 - e.start)) % 6144 < e.len

/-- No angle unit is in the spans of both entries (R83). -/
def Machine.Entry.apart (e d : Entry) : Prop := ∀ a, a < 6144 → ¬ (e.covers a ∧ d.covers a)

/-- The fields of an entry are in the ranges of Table 5-1 (R83). -/
def Machine.Entry.proper (e : Entry) : Prop := e.start < 6144 ∧ 1 ≤ e.len ∧ e.len ≤ 1024 ∧ 1 ≤ e.hits ∧ e.hits ≤ 15

/-- The Defect Map stands in strictly rising order of track and start angle, no two entries of a track share an angle unit, and
every entry, as the start angle of an open record, is in its range (R83, R84). -/
structure MapOrdered (s : State) : Prop where
  rising : s.defect.map.Pairwise Entry.below
  apart : s.defect.map.Pairwise (fun e d => e.track = d.track → e.apart d)
  proper : ∀ e ∈ s.defect.map, e.proper
  start : ∀ r, s.defect.openRec = some r → r.start < 6144

/-- v is a duty: −1023..+1023 (R169). -/
def IsDuty (v : Int) : Prop := -1023 ≤ v ∧ v ≤ 1023

/-- What a loop applies, or freezes in HOLD, is a duty (R27, R169). -/
structure LoopInRange (l : Loop) : Prop where
  limit : l.params.limit ≤ 1023
  last : IsDuty l.last
  held : ∀ v, l.held = some v → IsDuty v

/-- A spindle magnitude: 0..1023 (R169). -/
def IsMagnitude (m : Int) : Prop := 0 ≤ m ∧ m ≤ 1023

/-- What a delivery hands to a channel is in its range (R169). -/
def Delivery.InRange : Delivery → Prop
  | .focus v => IsDuty v
  | .track v => IsDuty v
  | .sled v => IsDuty v
  | .load v => IsDuty v
  | .spindle _ m => IsMagnitude m

/-- The duty of a request to the sled is in its range (R35). -/
def SledReq.InRange : SledReq → Prop
  | .driven d => IsDuty d
  | .toLoop => True

/-- The duty that event i carries to a channel or to the sled is in its range. -/
def Instr.InRange : Instr → Prop
  | .dutyDelivery d => d.InRange
  | .sledRequest r => r.InRange
  | _ => True

/-- A channel's buffered and applied duties are duties (R169). -/
structure BridgeInRange (c : Bridge) : Prop where
  buffered : IsDuty c.buffered
  applied : ∀ v, c.applied = some v → IsDuty v

/-- The sled's duties, and the parameters that they come from, are in their ranges (R33 to R36). -/
structure SledInRange (l : Sled) : Prop where
  limit : l.params.limit ≤ 1023
  seekDuty : l.params.seekDuty ≤ 1023
  brakeDuty : l.params.brakeDuty ≤ 1023
  mode : ∀ d, l.mode = .driven d → IsDuty d
  request : ∀ r, l.request = some r → r.InRange
  last : IsDuty l.lastDuty

/-- What the Spindle Controller hands over is within SP.LIMIT, and SP.LIMIT within 0..1023 (R111, R114, R129). -/
structure SpinInRange (b : Spin) : Prop where
  limit : b.params.limit ≤ 1023
  duty : b.duty.natAbs ≤ b.params.limit
  magnitude : IsMagnitude b.magnitude

/-- What the loops, the sled, the Loading Controller and the Spindle Controller deliver, what the five channels buffer and apply,
and what is on its way to them or waits in the queue of commands, is within its range (R169). -/
structure OutputsInRange (s : State) : Prop where
  focusLoop : LoopInRange s.loop.focus
  trackLoop : LoopInRange s.loop.track
  sledLoop : SledInRange s.loop.sled
  loadDuty : s.load.params.loadDuty ≤ 1023
  spin : SpinInRange s.spin
  dir : ∀ m, s.pos.motion = some m → m.dir.natAbs ≤ 1
  focus : BridgeInRange s.drive.focus
  track : BridgeInRange s.drive.track
  sled : BridgeInRange s.drive.sled
  load : BridgeInRange s.drive.load
  spindleBuffered : IsMagnitude s.drive.spindle.magnitude
  spindle : ∀ p m, s.drive.spindle.applied = some (p, m) → IsMagnitude m
  transit : ∀ i ∈ s.transit, i.InRange
  pending : ∀ i ∈ s.pending, i.InRange

end Sys2Proof
end

