-- ==== Sys2Proof/Certificates/Slice0/Obligations.lean ====
section
/-! DEFINITION. The statements for the provers: what the commands of the J582 do, stated from the numbered rules of spec/, and
the invariants that every step keeps. The words they are stated in stand in Sys2Proof.Claims. Most statements run one row on
a state; there three readings of the model hold: the event need not be in transit (log 3), a row that names a sub-step is the
whole step of the block in which the sub-step comes about (log 4), and a posted command need not be the head of the queue
(log 22). -/

section

open Sys2Proof Sys2Proof.Machine
/-! ## The words of the statements -/

namespace Sys2Proof.Claims

/-- u, with event i of s no longer in transit, the events `out` sent, in order, and the sub-steps `subs` come about. -/
def sent (s : State) (i : Instr) (out : List Instr) (subs : List SubStep) (u : State) : State :=
  { u with transit := s.transit.erase i ++ out, subs := subs }

/-- A completion on its way to the Command Queue. -/
def done (tag code : Byte) (r : Result) (v : Word) : Instr :=
  .completion { tag := tag, code := code, result := r, value := v }

/-- The completion of command c. -/
def doneOf (c : Posted) (r : Result) (v : Word) : Instr := done c.tag c.code r v

/-- One event if p holds, else none. -/
def onlyIf (p : Bool) (i : Instr) : List Instr := if p then [i] else []

/-- A step forward in the order of the Hall states (Table 7-1). -/
def forward (a b : BitVec 3) : Prop :=
  (a, b) = (1, 3) ∨ (a, b) = (3, 2) ∨ (a, b) = (2, 6) ∨ (a, b) = (6, 4) ∨ (a, b) = (4, 5) ∨ (a, b) = (5, 1)

/-- The measured period in units of 8 µs, clamped to 0..65535: the value of a spindle completion (R125). -/
def spinValue (b : Spin) : Word := BitVec.ofNat 16 (min 65535 (b.pMeas / 8))

/-- The completion value of work of the Position Controller that ends with the counter at n: the sweep count of a focus search, 0
of a park, else the counter (R51, R53, R55, R65, R68). -/
def valueAt (b : Pos) (n : Nat) (k : WorkKind) : Word :=
  match k with
  | .focusSearch => BitVec.ofNat 16 ((b.search.map SearchRec.sweeps).getD 0)
  | .park => 0
  | _ => BitVec.ofNat 16 n

/-- The place of x in a table of codes that begins at 0 (R187). -/
def place {α : Type} [DecidableEq α] (table : List α) (x : α) : Nat := table.findIdx (fun y => decide (y = x))

/-- Loading states, in the order of their codes (Table 9-1). -/
def loadingTable : List LoadingState :=
  [.startEval, .restoring, .empty, .inserting, .clamping, .loaded, .unloadWait, .ejecting, .presented, .jammed]

/-- The rows that the part answers while RESET is asserted: the resets, the release, and the bus cycles. -/
def actsInReset : Instr → Bool
  | .powerOnReset => true
  | .resetAssert => true
  | .resetRelease _ _ => true
  | .commandPost _ _ => true
  | .urgentPost _ => true
  | .windowWrite _ _ _ => true
  | .snapshotRead _ _ => true
  | .noticeWordRead _ => true
  | _ => false

end Sys2Proof.Claims

/-! ## The step -/

/-- A step runs the command at the front of the queue on the state with the queue's rest. -/
def Obligations.StepRunsFrontCommand : Prop :=
  ∀ (c : Instr) (rest : List Instr) (s : State),
    step { s with pending := c :: rest } = exec c { s with pending := rest }

/-- With no command queued, a step takes the oldest event in transit, and with none the block idles. The model's choice
(log 2). -/
def Obligations.StepWithoutCommandTakesOldestEvent : Prop :=
  ∀ s : State, s.pending = [] →
    (∀ i rest, s.transit = i :: rest → step s = exec i s) ∧ (s.transit = [] → step s = .next s)

/-- Every command gives a next state in every state, and leaves the queue of waiting commands as it is. -/
def Obligations.EveryCommandGivesNextState : Prop :=
  ∀ (i : Instr) (s : State), ∃ t, exec i s = .next t ∧ t.pending = s.pending

/-- While RESET is asserted, an event that is neither a reset, its release nor a bus cycle changes nothing. How the model
reads R1 and R180 (log 1). -/
def Obligations.EventsChangeNothingInReset : Prop :=
  ∀ (i : Instr) (s : State), s.held = true → Claims.actsInReset i = false → exec i s = .next s

/-! ## Resets -/

namespace Sys2Proof.Claims

/-- The default words of group k, in the order of Table 11-7. -/
def defaultsOf (k : Nat) : List Nat :=
  match k with
  | 0 | 1 => [8192, 0, 0, 0, 0, 8192, 0, 0, 0, 0, 8192, 0, 0, 0, 0, 8192, 0, 0, 0, 0, 16384, 16384, 14, 14, 800, 0,
              16384, 16384, 16384, 16384, 16384, 16384, 200, 100]
  | 2 => [8192, 14, 40, 600, 700, 500, 250]
  | 3 => [400, 50, 10, 12, 1000, 20, 316750 / 65536, 316750 % 65536, 23000, 1600, 0, 25000, 250000 / 65536, 250000 % 65536,
          3000, 1, 10]
  | 4 => [8, 200, 300, 60, 3, 1, 1, 16, 32]
  | 5 => [600, 300, 2500, 0, 0, 200, 0]
  | 6 => [600, 2, 3, 800, 400, 10, 20, 200, 300, 25, 500, 400, 8, 150, 1500, 100, 24000, 100, 1500, 4, 255, 100, 20, 300, 3000,
          200]
  | 7 => [0, 0, 4096, 1200, 900, 700, 950, 50, 20, 1]
  | 8 => [700, 20, 3000, 2000, 3000, 10000, 255, 64, 1, 15]
  | 9 => [800, 1400, 2000, 2600, 3200, 16]
  | _ => []

end Sys2Proof.Claims

/-- The reset tables of the chapters, block by block (R13, R38, R59, R76, R96, R106, R130, R152, R168, R179, R190, R194): every
register and record the spec gives a reset value. The registers left out are those of ResetValuesChosen. -/
def Sys2Proof.Claims.ResetTables : Prop :=
  State.reset.fe = { stamp := 0, formed := false, feOffset := 0, teOffset := 0, shOffset := 0, sp := 0, tm := 0,
                     laser := false, calibration := none }
    ∧ State.reset.loop.focus = { State.reset.loop.focus with
        state := .off, gainUse := .normal, gainReq := .normal,
        holds := { defect := false, predict := false, supply := false }, d1 := { x1 := 0, x2 := 0, y1 := 0, y2 := 0 },
        d2 := { x1 := 0, x2 := 0, y1 := 0, y2 := 0 }, last := 0, held := none, holdCount := 0, limitCount := 0,
        eventCount := 0, lastEvent := 0, ff := 0, lock := false, request := none, awaiting := 0 }
    ∧ State.reset.loop.track = State.reset.loop.focus
    ∧ State.reset.loop.sled = { State.reset.loop.sled with
        sum := 0, phase := 0, mode := .loop, lastDuty := 0, request := none, awaiting := 0 }
    ∧ State.reset.loop.band = 0 ∧ State.reset.loop.bandSet = false
    ∧ State.reset.pos = { State.reset.pos with
        state := .idle, work := none, search := none, prevFe := none, lockRun := 0, lossRun := 0, pull := none,
        parkTimer := none,
        views := { focus := .off, track := .off, held := false, loading := .startEval, spindle := .coasting, laser := false,
                   calibrating := false, recovery := .idle, refWait := false },
        counter := 0, valid := false, armed := false, mirror := false, lastDir := none, motion := none }
    ∧ State.reset.defect = { State.reset.defect with
        det := .inactive, baseline := 0, pendingInit := false, openRun := 0, closeRun := 0, freeze := none, depth := 0,
        openRec := none, map := [], window := none, count := 0,
        views := { position := .idle, counter := 0, valid := false, angleValid := false, rev := 0 } }
    ∧ State.reset.shock = { State.reset.shock with
        shock := false, startRun := 0, quietCount := 0, count := 0, shc := 0, ffFocus := 0, ffTrack := 0 }
    ∧ State.reset.spin = { State.reset.spin with
        state := .coasting, lastDir := none, edges := 0, origin := false, refTime := none, interval := none, history := [],
        phase := 0, rev := 0, target := none, stopKind := none, brakeDrive := false, clvTrack := 0, seekTarget := none,
        pMeas := 0, pTarget := 0, integ := 0, duty := 0, inRun := 0, outRun := 0, stallTimer := none, stopTimer := some 0,
        brakeTimer := none, work := none, respin := none, pattern := .coast, magnitude := 0, awaiting := 0,
        views := { loading := .startEval, supply := none, enable := false, counter := 0, valid := false } }
    ∧ State.reset.recov = { State.reset.recov with
        state := .idle, step := none, phase := none, timer := none, attempts := 0, nested := false, conditions := 0,
        reqNum := 0, reqStep := none, outcome := none, lgp := { track := 0, valid := false, stamp := 0 }, holdSeen := true,
        waiting := false, refTaken := false, lastCondition := none, lastOutcome := none,
        views := { position := .idle, counter := 0, valid := false, held := false, loading := .startEval, supply := none,
                   shock := false, angleValid := false } }
    ∧ State.reset.load = { State.reset.load with
        state := .startEval, counts := { entry := 0, centre := 0, clamp := 0, home := 0 }, seeded := false,
        motionTimer := none, withdrawTimer := none, presentTimer := none, work := none, spindle := .coasting,
        enable := false }
    ∧ (∀ c ∈ [State.reset.drive.focus, State.reset.drive.track, State.reset.drive.sled, State.reset.drive.load],
        c = { buffered := 0, applied := none, short := false, invert := false })
    ∧ State.reset.drive.spindle = { State.reset.drive.spindle with
        pattern := .coast, magnitude := 0, applied := none, invert := false }
    ∧ (∀ p ∈ [State.reset.drive.spindle.u, State.reset.drive.spindle.v, State.reset.drive.spindle.w],
        p.high = none ∧ p.low = none)
    ∧ State.reset.drive = { State.reset.drive with
        actuatorEnable := false, spindleEnable := false, supply := none, sp := 0, ride := none, restore := none }
    ∧ State.reset.bus = { State.reset.bus with snapshot := none, notice := 0, enable := 0xFF }
    ∧ State.reset.cq = { State.reset.cq with
        queue := [], deferred := false, applying := none, writeIndex := 0, count := 0,
        ring := List.replicate 16 { tag := 0, code := 0, result := .ok, value := 0 } }
    ∧ State.reset.cap = { State.reset.cap with
        state := .idle, oldest := 0, valid := 0, trigger := none, decim := 0, post := none }
    ∧ (∀ i j, i < 256 → j < 8 → State.reset.cap.buffer.word (0x1000 + 16 * i + 2 * j) = 0)
    ∧ State.reset.transit = []

namespace Sys2Proof.Claims

/-- The defaults of group 0 and of group 1 (spec/02 section 2.8). -/
def loopDefaults : LoopParams :=
  { coefN := { s1 := { b0 := 8192, b1 := 0, b2 := 0, a1 := 0, a2 := 0 }, s2 := { b0 := 8192, b1 := 0, b2 := 0, a1 := 0, a2 := 0 } },
    coefS := { s1 := { b0 := 8192, b1 := 0, b2 := 0, a1 := 0, a2 := 0 }, s2 := { b0 := 8192, b1 := 0, b2 := 0, a1 := 0, a2 := 0 } },
    gainN := 16384, gainS := 16384, shiftN := 14, shiftS := 14, limit := 800, bias := 0,
    trim := List.replicate 6 16384, limitRun := 200, holdMax := 100 }

end Sys2Proof.Claims

/-- The active values and the staging image hold the defaults of every group, the write image is 0 (R185, R190, Table 11-7). -/
def Sys2Proof.Claims.ResetDefaults : Prop :=
  State.reset.loop.focus.params = Claims.loopDefaults ∧ State.reset.loop.track.params = Claims.loopDefaults
    ∧ State.reset.loop.sled.params = { gain := 8192, shift := 14, deadband := 40, limit := 600, seekDuty := 700,
                                       brakeDuty := 500, brakeTime := 250 }
    ∧ State.reset.loop.temp = { tb1 := 800, tb2 := 1400, tb3 := 2000, tb4 := 2600, tb5 := 3200, hyst := 16 }
    ∧ State.reset.spin.params = { kp := 400, ki := 50, shiftP := 10, shiftI := 12, limit := 1000, window := 20,
                                  clvC := 316750, r0 := 23000, pitch := 1600, pMin := 25000, pMax := 250000, ocLimit := 3000,
                                  brakeMode := 1, deadtime := 10 }
    ∧ State.reset.defect.params = { alpha := 8, beta := 200, depth := 300, hyst := 60, filter := 3, learn := 1, prehold := 1,
                                    guardUnits := 16, mergeGap := 32 }
    ∧ State.reset.shock.params = { start := 600, stop := 300, quiet := 2500, ffF := 0, ffT := 0, ffLimit := 200,
                                   ffEnable := 0 }
    ∧ State.reset.pos.params = { searchAmp := 600, searchStep := 2, searchSweeps := 3, focusPullin := 800, focusLoss := 400,
                                 lossRun := 10, lockRun := 20, feWindow := 200, teWindow := 300, pullinInterval := 25,
                                 kickDuty := 500, jumpBrakeDuty := 400, jumpBrakeTime := 8, hyst := 150, mirror := 1500,
                                 brakeDist := 100, trackMax := 24000, settle := 100, seekTimeout := 1500,
                                 retrackTimeout := 200 }
    ∧ State.reset.recov.params = { budget := 4, mask := 255, refTimeout := 100, confirm := 20, quietWait := 300,
                                   respinTimeout := 3000 }
    ∧ State.reset.drive.params = { invert := 0, idle := 0, ksp := 4096, nominal := 1200, dip := 900, low := 700,
                                   restore := 950, ride := 50, restoreTime := 20, comp := 1 }
    ∧ State.reset.load.params = { loadDuty := 700, debounce := 20, insertTimeout := 3000, clampTimeout := 2000,
                                  ejectTimeout := 3000, presentTimeout := 10000 }
    ∧ State.reset.cap.params = { pre := 64, decimate := 1, triggers := 15 }
    ∧ (∀ off, off < 0x0100 → State.reset.bus.image.word off = 0 ∨ off % 2 = 1)
    ∧ (∀ k n, k < 10 → n < 64 →
        State.reset.bus.image.word (0x0100 + 0x80 * k + 2 * n) = BitVec.ofNat 16 ((Claims.defaultsOf k).getD n 0))

/-- The reset values that the model chose where the spec gives none: registers and words of log 27, inputs (log 6), clock and
instant (log 7), counter of free values (log 8), dead time (log 20), stale reports (log 23), switches (log 54), V.LOW in force
(log 56), RESET as asserted (log 1), sub-steps (log 4) and the queue of waiting commands. -/
def Sys2Proof.Claims.ResetValuesChosen : Prop :=
  State.reset.loop.focus.openDrive = 0 ∧ State.reset.loop.track.openDrive = 0 ∧ State.reset.pos.lastStamp = 0
    ∧ State.reset.spin.hall = 0 ∧ State.reset.spin.edgeTime = 0 ∧ State.reset.spin.err = 0 ∧ State.reset.bus.area = 0
    ∧ State.reset.bus.passed = none ∧ State.reset.bus.answer = none
    ∧ State.reset.pins = { entry := false, centre := false, clamp := false, home := false, sledHome := false }
    ∧ State.reset.clock = 0 ∧ State.reset.instant = 0 ∧ State.reset.freeCount = 0
    ∧ (∀ p ∈ [State.reset.drive.spindle.u, State.reset.drive.spindle.v, State.reset.drive.spindle.w],
        p.highOff = 4096 ∧ p.lowOff = 4096)
    ∧ State.reset.cq.stale = [] ∧ State.reset.load.switches = { entry := false, centre := false, clamp := false, home := false }
    ∧ State.reset.drive.lowUsed = 700 ∧ State.reset.held = true ∧ State.reset.subs = [] ∧ State.reset.pending = []

/-- Every register, record and parameter at reset: the reset tables of the chapters (R13 to R194), the defaults of the active
values and of the staging image (R185, Table 11-7), and the values the model chose where the spec gives none (logs 1, 4, 6, 7, 8,
20, 23, 27, 54, 56). That the staging words Table 11-7 does not list read 0 is the model's choice too (log 27). -/
def Obligations.ResetLeavesSpecifiedStates : Prop :=
  Claims.ResetTables ∧ Claims.ResetDefaults ∧ Claims.ResetValuesChosen

/-- POWER_ON_RESET and RESET_ASSERT put every block to its reset state; the servo area and the bus cycles stay under the RESET
input (R180). RESET_RELEASE reads the straps and the Hall state. What else stays (the levels on the pins, the clock with the
latest sample instant, the count of free values, the queue of waiting commands) and that the events in transit go is the model's
choice (log 42, with log 6 and log 7), as is that a release without RESET asserted changes nothing (log 1). -/
def Obligations.ResetRowsSetEveryBlock : Prop :=
  ∀ s : State,
    (∃ t, exec .powerOnReset s = .next t
      ∧ t = { State.reset with pins := s.pins, clock := s.clock, instant := s.instant, freeCount := s.freeCount,
                               pending := s.pending })
    ∧ (∃ t, exec .resetAssert s = .next t
      ∧ t = { State.reset with
                pins := s.pins, clock := s.clock, instant := s.instant, freeCount := s.freeCount, pending := s.pending,
                bus := { Bus.reset with area := s.bus.area, passed := s.bus.passed, answer := s.bus.answer } })
    ∧ (∀ (area : BitVec 4) (hall : BitVec 3),
        exec (.resetRelease area hall) s =
          .next (if s.held then
              { s with held := false, bus := { s.bus with area := area }, spin := { s.spin with hall := hall }, subs := [] }
            else s))

/-! ## Invariants -/

/-- The reset state is within its bounds, its Defect Map in order, its outputs within their ranges. -/
def Obligations.InvariantsHoldAtReset : Prop :=
  Bounded State.reset ∧ MapOrdered State.reset ∧ OutputsInRange State.reset

/-- Every step keeps the buffers, queues and counters within what the spec gives them: the queue (R181), the completion ring
(R184), the Defect Map's size (R83), the track and edge counters (R61, R108), the temperature band (R31), the capture ring
(R191), the attempts of an active plan within R.BUDGET (R137), no forward spindle drive while the loading state is not LOADED
(R111), the interval history and the update phase (R109, R112), and that a window open while the detector is OPEN has seen the
defect (R80, R89). -/
def Obligations.EveryStepKeepsBounds : Prop :=
  ∀ s t : State, Bounded s → step s = .next t → Bounded t

/-- Every step keeps the Defect Map in strictly rising order of track and start angle, the entries of a track without a shared
angle unit, each entry's length in 1..1024 and its hits in 1..15 (R83). -/
def Obligations.EveryStepKeepsMapOrder : Prop :=
  ∀ s t : State, MapOrdered s → step s = .next t → MapOrdered t

/-- Every step keeps what the loops, the sled, the Loading Controller and the Spindle Controller deliver, what is on its way,
what the channels buffer and what they apply within their ranges (R169). -/
def Obligations.EveryStepKeepsOutputRanges : Prop :=
  ∀ s t : State, OutputsInRange s → step s = .next t → OutputsInRange t

/-! ## Signal Front End -/

namespace Sys2Proof.Claims

/-- The set formed from raw conversions (R1, R2, R4). -/
def formed (s : State) (raw : RawSet) : SampleSet :=
  let stamp := if s.fe.formed then s.fe.stamp + 1 else 0
  { stamp := stamp,
    fe := clamp (-2048) 2047 (clamp (-2048) 2047 raw.fe - s.fe.feOffset),
    te := clamp (-2048) 2047 (clamp (-2048) 2047 raw.te - s.fe.teOffset),
    rs := clamp 0 4095 raw.rs,
    sh := clamp (-2048) 2047 (clamp (-2048) 2047 raw.sh - s.fe.shOffset),
    sc := clamp 0 4095 raw.sc,
    refresh :=
      if stamp.toNat % 64 = 63 then
        some { sp := (clamp 0 4095 raw.sp * s.drive.params.ksp + 2048) / 4096, tm := clamp 0 4095 raw.tm }
      else none }

/-- The Signal Front End after a set, a calibration apart. -/
def fed (s : State) (raw : RawSet) : FrontEnd :=
  { s.fe with
    stamp := (formed s raw).stamp, formed := true,
    sp := match (formed s raw).refresh with | none => s.fe.sp | some r => r.sp,
    tm := match (formed s raw).refresh with | none => s.fe.tm | some r => r.tm }

/-- The sets handed on, in the order of R3, and the deferred head's offer (R183). -/
def handed (x : SampleSet) : List Instr :=
  [.loopSampleSet x, .positionSet x, .defectSet x, .shockSet x, .spindleSet x, .captureSet x, .recoverySet, .loadingSet,
   .supplySet x, .deferredHeadOffer]

/-- The microsecond of the next sample instant: 20 after the latest one; the first set after reset comes 20 after the count as it
stands (R1; log 7). -/
def instantOf (s : State) : Nat := if s.fe.formed then s.instant + 20 else s.clock + 20

/-- A sample instant at which the front end becomes b and sends `out` beside the sets. -/
def sampled (s : State) (i : Instr) (raw : RawSet) (b : FrontEnd) (out : List Instr) (subs : List SubStep) : State :=
  { s with
    fe := b, pins := raw.pins, clock := max s.clock (instantOf s), instant := instantOf s, subs := subs,
    transit := (s.transit.erase i).filter (fun j => !isHandedSet j) ++ (handed (formed s raw) ++ out)
      ++ onlyIf (raw.pins.sledHome && !s.pins.sledHome) .sledHomeAsserted }

/-- The sum of a calibration with one raw conversion more. -/
def summed (sum raw : Int) : Int := sum + clamp (-2048) 2047 raw

/-- A new offset (R11). -/
def offsetOf (sum : Int) : Int := clamp (-2048) 2047 ((sum + 128) / 256)

/-- What interrupting a calibration in progress sends (R12). -/
def interrupted (b : FrontEnd) : List Instr :=
  match b.calibration with
  | none => []
  | some k => [done k.tag 0x12 .interrupted 0, .neighbourReport (.calibration false)]

end Sys2Proof.Claims

/-- A sample instant forms the set by R1, R2 and R4 and hands it to each block; a running calibration adds the raw
conversions to its sums. Each instant comes 20 µs after the one before it, whatever Hall edges came between (R1). That a newer
set takes the place of one not yet taken, that the pins are read with the set, and where the first instant falls in the
microsecond count is the model's reading (logs 5, 6, 7). -/
def Obligations.SampleSetFormsAndHandsOnSet : Prop :=
  ∀ (s : State) (raw : RawSet), s.held = false →
    (s.fe.calibration = none →
      exec (.sampleSet raw) s = .next (Claims.sampled s (.sampleSet raw) raw (Claims.fed s raw) [] []))
    ∧ (∀ k, s.fe.calibration = some k → k.count + 1 < 256 →
      exec (.sampleSet raw) s = .next (Claims.sampled s (.sampleSet raw) raw
        { Claims.fed s raw with
          calibration := some { k with count := k.count + 1, sumFe := Claims.summed k.sumFe raw.fe,
                                       sumTe := Claims.summed k.sumTe raw.te, sumSh := Claims.summed k.sumSh raw.sh } }
        [] []))

/-- CALIBRATE_OFFSETS is answered by R10, and CALIBRATION_COMPLETE replaces the three offsets by R11. The value of a refused
CALIBRATE OFFSETS is the FE offset (R6, Table 11-3). -/
def Sys2Proof.Claims.CalibrationRunsAndCompletes : Prop :=
  ∀ s : State, s.held = false →
    (∀ c, s.fe.calibration = none → s.pos.state = .idle →
      exec (.calibrateOffsets c) s =
        .next ((Claims.sent s (.calibrateOffsets c) [.neighbourReport (.calibration true)] []
          { s with fe := { s.fe with
              calibration := some { tag := c.tag, count := 0, sumFe := 0, sumTe := 0, sumSh := 0 } } }).retire c))
    ∧ (∀ c, s.fe.calibration.isSome = true →
      exec (.calibrateOffsets c) s =
        .next (((Claims.sent s (.calibrateOffsets c) [] [] s).completeNow c .busy (BitVec.ofInt 16 s.fe.feOffset)).retire c))
    ∧ (∀ c, s.fe.calibration = none → s.pos.state ≠ .idle →
      exec (.calibrateOffsets c) s =
        .next (((Claims.sent s (.calibrateOffsets c) [] [] s).completeNow c .notReady
          (BitVec.ofInt 16 s.fe.feOffset)).retire c))
    ∧ (∀ (raw : RawSet) k, s.fe.calibration = some k → 255 ≤ k.count →
      exec (.calibrationComplete raw) s = .next (Claims.sampled s (.sampleSet raw) raw
        { Claims.fed s raw with
          calibration := none, feOffset := Claims.offsetOf (Claims.summed k.sumFe raw.fe),
          teOffset := Claims.offsetOf (Claims.summed k.sumTe raw.te),
          shOffset := Claims.offsetOf (Claims.summed k.sumSh raw.sh) }
        [Claims.done k.tag 0x12 .ok (wordOf (Claims.offsetOf (Claims.summed k.sumFe raw.fe))),
         .neighbourReport (.calibration false)]
        [.calibrationComplete]))

/-- LASER_ON and LASER_OFF set the laser-enable state and complete OK, and are deferred while a calibration runs (R8). A
request of the Position Controller sets it at once and interrupts a calibration (R9, R12), as does the leaving of IDLE
(R12). -/
def Sys2Proof.Claims.LaserRowsSetEnableState : Prop :=
  ∀ s : State, s.held = false →
    (∀ c, s.fe.calibration = none →
      exec (.laserOn c) s =
          .next ((Claims.sent s (.laserOn c)
            (Claims.onlyIf (!s.fe.laser) (.neighbourReport (.laser true)) ++ [Claims.doneOf c .ok 0]) []
            { s with fe := { s.fe with laser := true } }).retire c)
      ∧ exec (.laserOff c) s =
          .next ((Claims.sent s (.laserOff c)
            (Claims.onlyIf s.fe.laser (.neighbourReport (.laser false)) ++ [Claims.doneOf c .ok 0]) []
            { s with fe := { s.fe with laser := false } }).retire c))
    ∧ (∀ c, s.fe.calibration.isSome = true →
      exec (.laserOn c) s = .next ((Claims.sent s (.laserOn c) [] [] s).answered c .deferred)
      ∧ exec (.laserOff c) s = .next ((Claims.sent s (.laserOff c) [] [] s).answered c .deferred))
    ∧ (∀ on : Bool,
      exec (.laserRequest on) s =
        .next (Claims.sent s (.laserRequest on)
          (Claims.interrupted s.fe ++ Claims.onlyIf (xor s.fe.laser on) (.neighbourReport (.laser on))) []
          { s with fe := { s.fe with laser := on, calibration := none } }))
    ∧ exec .positionLeavesIdle s =
        .next (Claims.sent s .positionLeavesIdle (Claims.interrupted s.fe) []
          { s with fe := { s.fe with calibration := none } })

/-- CALIBRATE_OFFSETS is answered by R10, CALIBRATION_COMPLETE replaces the three offsets by R11, LASER_ON and LASER_OFF set the
laser-enable state and are deferred while a calibration runs (R8), and the requests of the Position Controller set it at
once (R9, R12). -/
def Obligations.LaserAndCalibrationRows : Prop :=
  Claims.CalibrationRunsAndCompletes ∧ Claims.LaserRowsSetEnableState

/-! ## Loop Processor -/

namespace Sys2Proof.Claims

/-- A loop's openDrive or pending OPEN takes a new drive (R16). -/
def driven (l : Loop) (d : Int) : Loop :=
  match l.request with
  | some (.openWith _) => { l with request := some (.openWith d) }
  | _ => { l with openDrive := d }

/-- A loop that no request, no group and no SUPPLY source waits for. -/
def calm (l : Loop) : Prop := l.request = none ∧ l.awaiting = 0 ∧ l.holds.supply = false

/-- No hold of the loop times out at this sample (R20). -/
def holdsOn (l : Loop) : Prop :=
  l.holds.any = true →
    (l.state = .closed → 1 < l.params.holdMax) ∧ (l.state = .hold → satIncr l.holdCount < l.params.holdMax)

/-- A loop after a computed sample (R22 to R29). -/
def computed (l : Loop) (band : Nat) (e : Int) : Loop :=
  let k := l.compute band e
  { l with d1 := k.d1, d2 := k.d2, last := k.v,
           limitCount := if k.limited = true ∧ satIncr l.limitCount < l.params.limitRun then satIncr l.limitCount else 0,
           eventCount := if k.events = [] then l.eventCount else satIncr l.eventCount,
           lastEvent := k.events.head?.getD l.lastEvent }

/-- A loop after an ordinary sample, by its state (R14, R15, R18, R19, R22). -/
def afterSample (l0 : Loop) (band : Nat) (e : Int) : Loop :=
  let l := { l0 with gainUse := l0.gainReq }
  match l.state, l.holds.any with
  | .off, _ => { l with last := 0 }
  | .opened, _ => { l with last := clampAbs 1023 l.openDrive }
  | .closed, false => computed l band e
  | .closed, true => { l with state := .hold, held := some l.last, holdCount := 1 }
  | .hold, true => { l with holdCount := satIncr l.holdCount, last := l.held.getD l.last }
  | .hold, false => computed { l with state := .closed, held := none, holdCount := 0 } band e

/-- A focus loop after the pending request r is taken (R16). -/
def requested (l : Loop) (r : PendingReq) : Loop :=
  match r with
  | .off =>
    if l.state = .off then { l with request := none }
    else { l with request := none, state := .off, d1 := Delay.zero, d2 := Delay.zero, holdCount := 0, limitCount := 0,
                  holds := HoldSet.empty, lock := false, held := none }
  | .openWith d =>
    { l with request := none, state := .opened, openDrive := d, held := none,
             lock := if l.state = .closed ∨ l.state = .hold then false else l.lock }
  | .close => { l with request := none, state := .closed, d1 := Delay.zero, d2 := Delay.zero, limitCount := 0,
                       holdCount := 0, held := none }

/-- A loop after the sample at which its hold times out (R20). -/
def afterHold (l : Loop) : Loop :=
  { l with gainUse := l.gainReq, state := .closed, holds := HoldSet.empty, holdCount := 0, held := none,
           last := l.held.getD l.last }

/-- Only the Loop Processor has worked. -/
def onlyLoop (s t : State) : Prop := t = { s with loop := t.loop, transit := t.transit, subs := t.subs }

end Sys2Proof.Claims

/-- Requests to the loops and the sled are kept until the sample that takes them (R16, R22, R30, R35, R36). That a later
request to the sled takes the place of one not yet taken (log 45), and that a group handed over again while it waits is counted
(log 23), is the model's choice. -/
def Sys2Proof.Claims.LoopRequestsAreKeptForTheSample : Prop :=
  ∀ s : State, s.held = false →
    (∀ id, exec (.positionRequest id .off) s = .next (Claims.sent s (.positionRequest id .off) [] []
        { s with loop := s.loop.set id { s.loop.get id with request := some .off } }))
    ∧ (∀ id d, exec (.positionRequest id (.openWith d)) s = .next (Claims.sent s (.positionRequest id (.openWith d)) [] []
        { s with loop := s.loop.set id { s.loop.get id with request := some (.openWith d) } }))
    ∧ (∀ id, exec (.positionRequest id .close) s = .next (Claims.sent s (.positionRequest id .close) [] []
        { s with loop := s.loop.set id { s.loop.get id with request := some .close } }))
    ∧ (∀ id d, exec (.positionRequest id (.drive d)) s = .next (Claims.sent s (.positionRequest id (.drive d)) [] []
        { s with loop := s.loop.set id (Claims.driven (s.loop.get id) d) }))
    ∧ (∀ loops set, exec (.gainSetRequest loops set) s = .next (Claims.sent s (.gainSetRequest loops set) [] []
        { s with loop := s.loop.change loops (fun l => { l with gainReq := set }) }))
    ∧ (∀ id v, exec (.feedForwardValue id v) s = .next (Claims.sent s (.feedForwardValue id v) [] []
        { s with loop := s.loop.set id { s.loop.get id with ff := v } }))
    ∧ (∀ req, exec (.sledRequest req) s = .next (Claims.sent s (.sledRequest req) [] []
        { s with loop := { s.loop with sled := { s.loop.sled with request := some req } } }))
    ∧ exec (.loopGroupApply .focus) s = .next (Claims.sent s (.loopGroupApply .focus) [] []
        { s with loop := { s.loop with focus := { s.loop.focus with awaiting := s.loop.focus.awaiting + 1 } } })
    ∧ exec (.loopGroupApply .track) s = .next (Claims.sent s (.loopGroupApply .track) [] []
        { s with loop := { s.loop with track := { s.loop.track with awaiting := s.loop.track.awaiting + 1 } } })
    ∧ exec (.loopGroupApply .sled) s = .next (Claims.sent s (.loopGroupApply .sled) [] []
        { s with loop := { s.loop with sled := { s.loop.sled with awaiting := s.loop.sled.awaiting + 1 } } })

/-- A hold-source request changes the sets of the loops it names as it arrives (R18), and a change of either set is reported
to the Position and Recovery Controllers (R32). -/
def Sys2Proof.Claims.HoldSourceRequestChangesSets : Prop :=
  ∀ (s : State) (loops : LoopTarget) (src : HoldSource) (on : Bool), s.held = false →
    ∀ b, b = s.loop.change loops (fun l => { l with holds := l.holds.change src on }) →
      exec (.holdSourceRequest loops src on) s = .next (Claims.sent s (.holdSourceRequest loops src on)
        (if b.focus.holds = s.loop.focus.holds ∧ b.track.holds = s.loop.track.holds then []
         else [.neighbourReport (.holdSource (b.focus.holds.any || b.track.holds.any)),
               .holdSourceReport (.holdSource (b.focus.holds.any || b.track.holds.any))])
        [] { s with loop := b })

/-- Requests to the loops and the sled are kept until the sample that takes them (R16, R22, R30, R35, R36), and a hold-source
request changes the sets of the loops it names as it arrives (R18), a change of either set being reported to the Position and
Recovery Controllers (R32). That a later request to the sled takes the place of one not yet taken (log 45), and
that a group handed over again while it waits is counted (log 23), is the model's choice. -/
def Obligations.LoopRequestsAndHoldSources : Prop :=
  Claims.LoopRequestsAreKeptForTheSample ∧ Claims.HoldSourceRequestChangesSets

/-- One sample of each loop: OFF delivers 0, OPEN its drive, CLOSED the compensator's value, HOLD the frozen value; a pending
request of the focus loop is taken first; the first refresh gives the temperature band without hysteresis (R14 to R19, R31).
That a loop opened from HOLD keeps its hold sample count is the model's reading of R16 (log 31). -/
def Sys2Proof.Claims.LoopSampleByState : Prop :=
  ∀ (s : State) (x : SampleSet), s.held = false → ∃ t, exec (.loopSampleSet x) s = .next t
    ∧ Claims.onlyLoop s t
    ∧ .dutyDelivery (.focus t.loop.focus.last) ∈ t.transit
    ∧ .dutyDelivery (.track t.loop.track.last) ∈ t.transit
    ∧ (x.refresh = none → t.loop.band = s.loop.band)
    ∧ (∀ r, x.refresh = some r → s.loop.bandSet = false →
        t.loop.band = ([s.loop.temp.tb1, s.loop.temp.tb2, s.loop.temp.tb3, s.loop.temp.tb4, s.loop.temp.tb5].filter
          (fun n : Nat => decide ((n : Int) ≤ r.tm))).length)
    ∧ (Claims.calm s.loop.focus → Claims.holdsOn s.loop.focus →
        t.loop.focus = Claims.afterSample s.loop.focus t.loop.band x.fe)
    ∧ (Claims.calm s.loop.focus → Claims.calm s.loop.track → Claims.holdsOn s.loop.track →
        t.loop.track = Claims.afterSample s.loop.track t.loop.band x.te)
    ∧ (∀ r, s.loop.focus.request = some r → s.loop.focus.awaiting = 0 → s.loop.focus.holds.any = false →
        t.loop.focus = Claims.afterSample (Claims.requested s.loop.focus r) t.loop.band x.fe)

namespace Sys2Proof.Claims

/-- CLOSED or HOLD. -/
def closedOrHold (l : Loop) : Prop := l.state = .closed ∨ l.state = .hold

/-- A loop after step 3: its pending request is taken (R16). -/
def afterRequest (l : Loop) : Loop :=
  match l.request with
  | none => l
  | some r => requested l r

/-- A loop after step 4: a SUPPLY source is acted on (R21). -/
def afterSupply (l : Loop) : Loop :=
  if l.holds.supply then
    if l.state = .off then { l with holds := { l.holds with supply := false } } else requested l .off
  else l

/-- The output that a hold entered in a sample freezes, from the loop as it stood before step 3 (R18). -/
def outputBefore (l : Loop) : Int :=
  match l.state with
  | .off => 0
  | .opened => clampAbs 1023 l.openDrive
  | .closed => l.last
  | .hold => l.last

/-- Steps 5 to 8 of loop l; a hold entered here freezes v (R15, R18, R19). -/
def sampledFrom (v : Int) (l : Loop) (band : Nat) (e : Int) : Loop :=
  match l.state, l.holds.any with
  | .closed, true => { l with gainUse := l.gainReq, state := .hold, held := some v, holdCount := 1, last := v }
  | _, _ => afterSample l band e

/-- The focus loop has left CLOSED and HOLD from s to t (R17). -/
def focusLeft (s t : State) : Prop := closedOrHold s.loop.focus ∧ ¬ closedOrHold t.loop.focus

/-- The report of a loop's state after the sample in which it changed (R32); an OFF that was requested is told apart (log 15). -/
def stateReport (id : LoopId) (before after : Loop) : Instr :=
  .loopStateReport (.state id after.state (decide (before.request = some .off)))

end Sys2Proof.Claims

/-- A sample of either loop with every pending request and every hold source: the request (R16), the focus loop's leaving
(R17), SUPPLY (R21), then the sample; and what is reported of it (R16, R17, R32). That a loop opened from HOLD keeps its hold
sample count is the model's reading (log 31), as is how an OFF that was requested is told apart (log 15). -/
def Sys2Proof.Claims.LoopSampleTakesRequestsAndSupply : Prop :=
  ∀ (s : State) (x : SampleSet), s.held = false → ∃ t, exec (.loopSampleSet x) s = .next t
    ∧ (s.loop.focus.awaiting = 0 → ∀ l, l = Claims.afterSupply (Claims.afterRequest s.loop.focus) → Claims.holdsOn l →
        t.loop.focus = Claims.sampledFrom (Claims.outputBefore s.loop.focus) l t.loop.band x.fe
        ∧ (t.loop.focus.state ≠ s.loop.focus.state →
            Claims.stateReport .focus s.loop.focus t.loop.focus ∈ t.transit)
        ∧ (Claims.focusLeft s t → .loopStateReport .focusOut ∈ t.transit ∧ .focusOutReport ∈ t.transit)
        ∧ (¬ Claims.closedOrHold s.loop.focus → Claims.closedOrHold t.loop.focus →
            .loopStateReport .focusIn ∈ t.transit ∧ .focusInReport ∈ t.transit))
    ∧ (s.loop.track.awaiting = 0 →
        (Claims.focusLeft s t → ∀ l, l = Claims.afterSupply (Claims.requested s.loop.track .off) → Claims.holdsOn l →
          t.loop.track = Claims.sampledFrom (Claims.outputBefore s.loop.track) l t.loop.band x.te
          ∧ t.loop.track.state = .off)
        ∧ (¬ Claims.focusLeft s t → Claims.closedOrHold t.loop.focus ∨ s.loop.track.request = none
              ∨ s.loop.track.request = some .off →
          ∀ l, l = Claims.afterSupply (Claims.afterRequest s.loop.track) → Claims.holdsOn l →
          t.loop.track = Claims.sampledFrom (Claims.outputBefore s.loop.track) l t.loop.band x.te)
        ∧ (¬ Claims.focusLeft s t → ¬ Claims.closedOrHold t.loop.focus → s.loop.track.request ≠ none →
          s.loop.track.request ≠ some .off →
          ∀ l, l = Claims.afterSupply (Claims.requested s.loop.track .off) → Claims.holdsOn l →
          t.loop.track = Claims.sampledFrom (Claims.outputBefore s.loop.track) l t.loop.band x.te
          ∧ t.loop.track.state = .off ∧ .trackingOffNotice ∈ t.transit)
        ∧ (t.loop.track.state ≠ s.loop.track.state →
            Claims.stateReport .track s.loop.track t.loop.track ∈ t.transit))

namespace Sys2Proof.Claims

/-- TBk, k = 1..5. -/
def threshold (p : TemperatureParams) (k : Nat) : Int :=
  match k with
  | 1 => p.tb1
  | 2 => p.tb2
  | 3 => p.tb3
  | 4 => p.tb4
  | _ => p.tb5

end Sys2Proof.Claims

/-- A later refresh moves the band by R31: up while TM is at or above the next threshold; if it does not rise, down while TM is
below the threshold of the band less TB.HYST. -/
def Sys2Proof.Claims.BandMovesWithHysteresis : Prop :=
  ∀ (s : State) (x : SampleSet) (r : Refresh), s.held = false → x.refresh = some r → s.loop.bandSet = true →
    s.loop.band ≤ 5 →
    ∃ t, exec (.loopSampleSet x) s = .next t ∧ t.loop.bandSet = true
      ∧ (s.loop.band < 5 → Claims.threshold s.loop.temp (s.loop.band + 1) ≤ r.tm →
          s.loop.band < t.loop.band ∧ t.loop.band ≤ 5
            ∧ (∀ k, s.loop.band < k → k ≤ t.loop.band → Claims.threshold s.loop.temp k ≤ r.tm)
            ∧ (t.loop.band < 5 → r.tm < Claims.threshold s.loop.temp (t.loop.band + 1)))
      ∧ ((s.loop.band < 5 → r.tm < Claims.threshold s.loop.temp (s.loop.band + 1)) →
          t.loop.band ≤ s.loop.band
            ∧ (∀ k, t.loop.band < k → k ≤ s.loop.band → r.tm < Claims.threshold s.loop.temp k - s.loop.temp.hyst)
            ∧ (0 < t.loop.band → Claims.threshold s.loop.temp t.loop.band - s.loop.temp.hyst ≤ r.tm))

/-- One sample of each loop: what OFF, OPEN, CLOSED and HOLD deliver (R14, R15, R18, R19); the pending requests of both loops
and the focus loop's leaving (R16, R17); SUPPLY (R21); the temperature band with its hysteresis (R31). That a loop opened from
HOLD keeps its hold sample count (log 31) and how the report tells an OFF that was requested apart (log 15) is the model's
reading. -/
def Obligations.LoopSampleRunsEachState : Prop :=
  Claims.LoopSampleByState ∧ Claims.LoopSampleTakesRequestsAndSupply ∧ Claims.BandMovesWithHysteresis

namespace Sys2Proof.Claims

/-- A value outside −32768..+32767: it is saturated, and noted (R23, R24, R26). -/
def outside16 (a : Int) : Prop := a < -32768 ∨ 32767 < a

end Sys2Proof.Claims

/-- The two sections, the gain and the limit of a computed sample, with the gain set in use (R23 to R27), and the events noted
in it, in the rising order of their codes (R28). -/
def Obligations.CompensatorSampleFormula : Prop :=
  ∀ (l : Loop) (band : Nat) (e : Int),
    let c := if l.gainUse = .normal then l.params.coefN else l.params.coefS
    let g := if l.gainUse = .normal then l.params.gainN else l.params.gainS
    let shift := if l.gainUse = .normal then l.params.shiftN else l.params.shiftS
    let a1 := roundShift (c.s1.b0 * e + c.s1.b1 * l.d1.x1 + c.s1.b2 * l.d1.x2 - c.s1.a1 * l.d1.y1
      - c.s1.a2 * l.d1.y2) 13
    let y1 := sat16 a1
    let a2 := roundShift (c.s2.b0 * y1 + c.s2.b1 * l.d2.x1 + c.s2.b2 * l.d2.x2 - c.s2.a1 * l.d2.y1
      - c.s2.a2 * l.d2.y2) 13
    let y2 := sat16 a2
    let geff := (g * l.params.trim.getD band 0 + 8192) / 16384
    let gain : Nat := min 65535 geff
    let u := roundShift (y2 * gain) shift
    let v := sat16 u + l.params.bias + l.ff
    (l.compute band e).d1 = { x1 := e, x2 := l.d1.x1, y1 := y1, y2 := l.d1.y1 }
      ∧ (v.natAbs ≤ l.params.limit →
          (l.compute band e).v = v ∧ (l.compute band e).limited = false
            ∧ (l.compute band e).d2 = { x1 := y1, x2 := l.d2.x1, y1 := y2, y2 := l.d2.y1 })
      ∧ (l.params.limit < v.natAbs →
          (l.compute band e).v = (if 0 < v then (l.params.limit : Int) else -(l.params.limit : Int))
            ∧ (l.compute band e).limited = true ∧ (l.compute band e).d2 = l.d2)
      ∧ (l.compute band e).events.Pairwise (· < ·)
      ∧ ∀ k, k ∈ (l.compute band e).events ↔
          (k = 1 ∧ Claims.outside16 a1) ∨ (k = 2 ∧ Claims.outside16 a2) ∨ (k = 3 ∧ 65535 < geff)
            ∨ (k = 4 ∧ Claims.outside16 u) ∨ (k = 5 ∧ l.params.limit < v.natAbs)

/-- HOLD_TIMEOUT and LIMIT_RUN are the samples at which a hold times out (R20) and a limit run is reached (R29), of either
loop. -/
def Obligations.HoldTimeoutAndLimitRunRaiseConditions : Prop :=
  ∀ (s : State) (x : SampleSet), s.held = false → Claims.calm s.loop.focus → Claims.calm s.loop.track →
    (s.loop.focus.state = .hold → s.loop.focus.holds.any = true →
      s.loop.focus.params.holdMax ≤ satIncr s.loop.focus.holdCount →
      ∃ t, exec (.holdTimeout x) s = .next t ∧ Claims.onlyLoop s t ∧ .holdTimeout ∈ t.subs
        ∧ .condition .holdTimeout ∈ t.transit ∧ t.loop.focus = Claims.afterHold s.loop.focus)
    ∧ (s.loop.track.state = .hold → s.loop.track.holds.any = true →
      s.loop.track.params.holdMax ≤ satIncr s.loop.track.holdCount →
      ∃ t, exec (.holdTimeout x) s = .next t ∧ Claims.onlyLoop s t ∧ .holdTimeout ∈ t.subs
        ∧ .condition .holdTimeout ∈ t.transit ∧ t.loop.track = Claims.afterHold s.loop.track)
    ∧ (s.loop.focus.state = .closed → s.loop.focus.holds.any = false → x.refresh = none →
      ({ s.loop.focus with gainUse := s.loop.focus.gainReq }.compute s.loop.band x.fe).limited = true →
      s.loop.focus.params.limitRun ≤ satIncr s.loop.focus.limitCount →
      ∃ t, exec (.limitRun x) s = .next t ∧ Claims.onlyLoop s t ∧ .limitRun ∈ t.subs
        ∧ .condition .focusLimit ∈ t.transit ∧ t.loop.focus.limitCount = 0
        ∧ t.loop.focus = Claims.afterSample s.loop.focus s.loop.band x.fe)
    ∧ (s.loop.track.state = .closed → s.loop.track.holds.any = false → x.refresh = none →
      ({ s.loop.track with gainUse := s.loop.track.gainReq }.compute s.loop.band x.te).limited = true →
      s.loop.track.params.limitRun ≤ satIncr s.loop.track.limitCount →
      ∃ t, exec (.limitRun x) s = .next t ∧ Claims.onlyLoop s t ∧ .limitRun ∈ t.subs
        ∧ .condition .trackLimit ∈ t.transit ∧ t.loop.track.limitCount = 0
        ∧ t.loop.track = Claims.afterSample s.loop.track s.loop.band x.te)

namespace Sys2Proof.Claims

/-- The duty of a sled update from the sum of eight outputs (R34): the mean, the dead band, the gain, the limit, and none
inward while SLED_HOME is asserted. -/
def sledDuty (p : SledParams) (home : Bool) (sum : Int) : Int :=
  let m := (sum + 4) / 8
  let d :=
    if m.natAbs ≤ p.deadband then 0
    else clampAbs p.limit (roundShift ((if m < 0 then m + p.deadband else m - p.deadband) * p.gain) p.shift)
  if home = true ∧ d < 0 then 0 else d

end Sys2Proof.Claims

/-- SLED_UPDATE computes a duty from eight tracking outputs (R34); SLED_HOME_ASSERTED replaces an inward duty by 0 (R34).
That the level becomes asserted with an event that was not in transit is the model's choice (log 6). -/
def Sys2Proof.Claims.SledUpdatesFromEightOutputs : Prop :=
  ∀ s : State, s.held = false →
    (∀ x : SampleSet, Claims.calm s.loop.focus → Claims.calm s.loop.track → s.loop.sled.mode = .loop →
      s.loop.sled.request = none → s.loop.sled.awaiting = 0 → s.loop.sled.phase = 7 →
      s.loop.track.state = .closed → s.loop.track.holds.any = false →
      ∃ t, exec (.sledUpdate x) s = .next t ∧ Claims.onlyLoop s t ∧ .sledUpdate ∈ t.subs
        ∧ t.loop.sled = { s.loop.sled with
            sum := 0, phase := 0,
            lastDuty := Claims.sledDuty s.loop.sled.params s.pins.sledHome (s.loop.sled.sum + t.loop.track.last) }
        ∧ .dutyDelivery (.sled t.loop.sled.lastDuty) ∈ t.transit)
    ∧ exec .sledHomeAsserted s = .next (Claims.sent s .sledHomeAsserted
        (Claims.onlyIf (decide (s.loop.sled.lastDuty < 0)) (.dutyDelivery (.sled 0))) []
        { s with
          pins := { s.pins with sledHome := s.pins.sledHome || !s.transit.contains .sledHomeAsserted },
          loop := { s.loop with sled := { s.loop.sled with lastDuty := max 0 s.loop.sled.lastDuty } } })

namespace Sys2Proof.Claims

/-- An inward duty is replaced by 0 while SLED_HOME is asserted (R34). -/
def homed (home : Bool) (d : Int) : Int := if home = true ∧ d < 0 then 0 else d

/-- The duty d, with the inner limit, is in force after the sled step: it is delivered where it differs from the last duty
(R33, R35). -/
def sledDelivers (s t : State) (d : Int) : Prop :=
  t.loop.sled.lastDuty = homed s.pins.sledHome d
    ∧ (homed s.pins.sledHome d ≠ s.loop.sled.lastDuty →
        .dutyDelivery (.sled (homed s.pins.sledHome d)) ∈ t.transit)

/-- The tracking loop has gone to OFF through R17, which returns the sled to mode LOOP. -/
def trackDropped (s t : State) : Prop := focusLeft s t ∧ s.loop.track.state ≠ .off

end Sys2Proof.Claims

/-- The sled step of a set with no group 2 waiting: mode LOOP with the tracking loop CLOSED, before the eighth output, and not
CLOSED (R33); mode DRIVEN, the two requests, and the return to LOOP with R17 (R35). -/
def Sys2Proof.Claims.SledStepRunsEachMode : Prop :=
  ∀ (s : State) (x : SampleSet), s.held = false → s.loop.sled.awaiting = 0 →
    ∃ t, exec (.loopSampleSet x) s = .next t
      ∧ (s.loop.sled.mode = .loop → s.loop.sled.request = none →
          (t.loop.track.state = .closed → s.loop.sled.phase < 7 →
            t.loop.sled = { s.loop.sled with
              sum := s.loop.sled.sum + t.loop.track.last, phase := s.loop.sled.phase + 1 })
          ∧ (t.loop.track.state ≠ .closed →
            t.loop.sled = { s.loop.sled with sum := 0, phase := 0, lastDuty := 0 } ∧ Claims.sledDelivers s t 0))
      ∧ (∀ d, s.loop.sled.mode = .driven d → s.loop.sled.request = none →
          (¬ Claims.trackDropped s t →
            t.loop.sled = { s.loop.sled with lastDuty := Claims.homed s.pins.sledHome d } ∧ Claims.sledDelivers s t d)
          ∧ (Claims.trackDropped s t → t.loop.sled.mode = .loop ∧ t.loop.sled.sum = 0 ∧ t.loop.sled.phase = 0
            ∧ Claims.sledDelivers s t 0))
      ∧ (∀ d, s.loop.sled.request = some (.driven d) →
          t.loop.sled = { s.loop.sled with
              request := none, mode := .driven d, lastDuty := Claims.homed s.pins.sledHome d }
          ∧ Claims.sledDelivers s t d)
      ∧ (s.loop.sled.request = some .toLoop →
          t.loop.sled = { s.loop.sled with
              request := none, mode := .loop, lastDuty := 0,
              sum := if t.loop.track.state = .closed then t.loop.track.last else 0,
              phase := if t.loop.track.state = .closed then 1 else 0 }
          ∧ Claims.sledDelivers s t 0)

/-- SLED_UPDATE computes a duty from eight tracking outputs (R34), the sled step of every other set follows the mode and the
tracking loop (R33, R35), and SLED_HOME_ASSERTED replaces an inward duty by 0 (R34). That the level becomes asserted with an
event that was not in transit (log 6), and that a request acts after a return to LOOP by R17 at the same set (log 37), is the
model's choice. -/
def Obligations.SledUpdateAndInnerLimit : Prop :=
  Claims.SledUpdatesFromEightOutputs ∧ Claims.SledStepRunsEachMode

/-! ## Parameter groups -/

namespace Sys2Proof.Claims

/-- Only the Signal Front End has worked. -/
def onlyFe (s t : State) : Prop := t = { s with fe := t.fe, transit := t.transit, subs := t.subs }

/-- Only the Position Controller has worked. -/
def onlyPos (s t : State) : Prop := t = { s with pos := t.pos, transit := t.transit, subs := t.subs }

/-- Only the Spindle Controller has worked. -/
def onlySpin (s t : State) : Prop := t = { s with spin := t.spin, transit := t.transit, subs := t.subs }

/-- Only the Defect Monitor has worked. -/
def onlyDefect (s t : State) : Prop := t = { s with defect := t.defect, transit := t.transit, subs := t.subs }

/-- Only the Recovery Controller has worked. -/
def onlyRecov (s t : State) : Prop := t = { s with recov := t.recov, transit := t.transit, subs := t.subs }

/-- Only the Loading Controller has worked. -/
def onlyLoad (s t : State) : Prop := t = { s with load := t.load, transit := t.transit, subs := t.subs }

/-- Only the Drive Output Unit and Supply Monitor has worked. -/
def onlyDrive (s t : State) : Prop := t = { s with drive := t.drive, transit := t.transit, subs := t.subs }

/-- The staged word n of group 9. -/
def stagedTemp (s : State) (n : Nat) : Nat := (s.bus.image.word (0x0580 + 2 * n)).toNat

/-- A threshold or hysteresis word, clamped to lo..4095. -/
def tempClamp (lo w : Nat) : Nat := max lo (min 4095 w)

/-- 1 if a clamp changed the word. -/
def changed (w v : Nat) : Nat := if v = w then 0 else 1

end Sys2Proof.Claims

/-- Group 9 is applied at once: each threshold is clamped to at least the one before it, all are clamped to 0..4095, each
clamped word counts, the count is reported, and the band is not evaluated (R37). -/
def Obligations.TemperatureGroupClampsThresholds : Prop :=
  ∀ (s : State), s.held = false →
    ∀ (tb1 tb2 tb3 tb4 tb5 hyst : Nat),
      tb1 = Claims.tempClamp 0 (Claims.stagedTemp s 0) → tb2 = Claims.tempClamp tb1 (Claims.stagedTemp s 1) →
      tb3 = Claims.tempClamp tb2 (Claims.stagedTemp s 2) → tb4 = Claims.tempClamp tb3 (Claims.stagedTemp s 3) →
      tb5 = Claims.tempClamp tb4 (Claims.stagedTemp s 4) → hyst = Claims.tempClamp 0 (Claims.stagedTemp s 5) →
      exec .temperatureGroupApply s = .next (Claims.sent s .temperatureGroupApply
        [.groupAppliedReport .temperature
          (Claims.changed (Claims.stagedTemp s 0) tb1 + Claims.changed (Claims.stagedTemp s 1) tb2
            + Claims.changed (Claims.stagedTemp s 2) tb3 + Claims.changed (Claims.stagedTemp s 3) tb4
            + Claims.changed (Claims.stagedTemp s 4) tb5 + Claims.changed (Claims.stagedTemp s 5) hyst)]
        [] { s with loop := { s.loop with
          temp := { tb1 := tb1, tb2 := tb2, tb3 := tb3, tb4 := tb4, tb5 := tb5, hyst := hyst } } })

namespace Sys2Proof.Claims

/-- The staged word n of group k, unsigned (Table 11-7). -/
def staged (s : State) (k n : Nat) : Nat := (s.bus.image.word (0x0100 + 0x80 * k + 2 * n)).toNat

/-- The staged word n of group k, signed. -/
def stagedInt (s : State) (k n : Nat) : Int := (s.bus.image.word (0x0100 + 0x80 * k + 2 * n)).toInt

/-- The staged words n and n + 1 of group k as one value, the high half first. -/
def staged32 (s : State) (k n : Nat) : Nat := 65536 * staged s k n + staged s k (n + 1)

/-- A word brought to the nearer end of lo..hi. -/
def into (lo hi w : Nat) : Nat := max lo (min hi w)

/-- How many values of a list differ from the words they were taken from. -/
def clampCount (l : List (Nat × Nat)) : Nat := (l.filter (fun q => decide (q.2 ≠ q.1))).length

/-- Five coefficients from word n of group k. -/
def biquadAt (s : State) (k n : Nat) : Biquad :=
  { b0 := stagedInt s k n, b1 := stagedInt s k (n + 1), b2 := stagedInt s k (n + 2), a1 := stagedInt s k (n + 3),
    a2 := stagedInt s k (n + 4) }

/-- Group 0 or 1 as staged (section 2.8, R36). -/
def loopGroup (s : State) (k : Nat) : LoopParams :=
  { coefN := { s1 := biquadAt s k 0, s2 := biquadAt s k 5 }, coefS := { s1 := biquadAt s k 10, s2 := biquadAt s k 15 },
    gainN := staged s k 20, gainS := staged s k 21, shiftN := into 0 31 (staged s k 22), shiftS := into 0 31 (staged s k 23),
    limit := into 0 1023 (staged s k 24), bias := max (-1023) (min 1023 (stagedInt s k 25)),
    trim := [into 0 32767 (staged s k 26), into 0 32767 (staged s k 27), into 0 32767 (staged s k 28),
             into 0 32767 (staged s k 29), into 0 32767 (staged s k 30), into 0 32767 (staged s k 31)],
    limitRun := into 1 65535 (staged s k 32), holdMax := into 1 65535 (staged s k 33) }

/-- The words of group 0 or 1 that its clamps change. -/
def loopCount (s : State) (k : Nat) : Nat :=
  clampCount [(staged s k 22, into 0 31 (staged s k 22)), (staged s k 23, into 0 31 (staged s k 23)),
    (staged s k 24, into 0 1023 (staged s k 24)), (staged s k 26, into 0 32767 (staged s k 26)),
    (staged s k 27, into 0 32767 (staged s k 27)), (staged s k 28, into 0 32767 (staged s k 28)),
    (staged s k 29, into 0 32767 (staged s k 29)), (staged s k 30, into 0 32767 (staged s k 30)),
    (staged s k 31, into 0 32767 (staged s k 31)), (staged s k 32, into 1 65535 (staged s k 32)),
    (staged s k 33, into 1 65535 (staged s k 33))]
  + (if -1023 ≤ stagedInt s k 25 ∧ stagedInt s k 25 ≤ 1023 then 0 else 1)

/-- Group 2 as staged (section 2.8, R36). -/
def sledGroup (s : State) : SledParams :=
  { gain := staged s 2 0, shift := into 0 31 (staged s 2 1), deadband := into 0 1023 (staged s 2 2),
    limit := into 0 1023 (staged s 2 3), seekDuty := into 0 1023 (staged s 2 4), brakeDuty := into 0 1023 (staged s 2 5),
    brakeTime := staged s 2 6 }

/-- The words of group 2 that its clamps change. -/
def sledCount (s : State) : Nat :=
  clampCount [(staged s 2 1, into 0 31 (staged s 2 1)), (staged s 2 2, into 0 1023 (staged s 2 2)),
    (staged s 2 3, into 0 1023 (staged s 2 3)), (staged s 2 4, into 0 1023 (staged s 2 4)),
    (staged s 2 5, into 0 1023 (staged s 2 5))]

/-- SP.P_MIN as staged (section 7.8). -/
def pMinOf (s : State) : Nat := into 1 1000000 (staged32 s 3 10)

/-- Group 3 as staged: SP.P_MAX is at least SP.P_MIN (section 7.8, R129). -/
def spindleGroup (s : State) : SpindleParams :=
  { kp := staged s 3 0, ki := staged s 3 1, shiftP := into 0 31 (staged s 3 2), shiftI := into 0 31 (staged s 3 3),
    limit := into 0 1023 (staged s 3 4), window := into 0 1023 (staged s 3 5), clvC := staged32 s 3 6, r0 := staged s 3 8,
    pitch := staged s 3 9, pMin := pMinOf s, pMax := into (pMinOf s) 1000000 (staged32 s 3 12),
    ocLimit := into 0 4095 (staged s 3 14), brakeMode := into 0 1 (staged s 3 15), deadtime := into 0 255 (staged s 3 16) }

/-- The values of group 3 that its clamps change. -/
def spindleCount (s : State) : Nat :=
  clampCount [(staged s 3 2, into 0 31 (staged s 3 2)), (staged s 3 3, into 0 31 (staged s 3 3)),
    (staged s 3 4, into 0 1023 (staged s 3 4)), (staged s 3 5, into 0 1023 (staged s 3 5)),
    (staged32 s 3 10, pMinOf s), (staged32 s 3 12, into (pMinOf s) 1000000 (staged32 s 3 12)),
    (staged s 3 14, into 0 4095 (staged s 3 14)), (staged s 3 15, into 0 1 (staged s 3 15)),
    (staged s 3 16, into 0 255 (staged s 3 16))]

/-- Group 4 as staged (section 5.7, R95). -/
def defectGroup (s : State) : DefectParams :=
  { alpha := into 1 64 (staged s 4 0), beta := staged s 4 1, depth := into 1 4095 (staged s 4 2),
    hyst := into 0 4095 (staged s 4 3), filter := into 1 255 (staged s 4 4), learn := into 0 1 (staged s 4 5),
    prehold := into 0 1 (staged s 4 6), guardUnits := into 0 1024 (staged s 4 7), mergeGap := into 0 1024 (staged s 4 8) }

/-- The words of group 4 that its clamps change. -/
def defectCount (s : State) : Nat :=
  clampCount [(staged s 4 0, into 1 64 (staged s 4 0)), (staged s 4 2, into 1 4095 (staged s 4 2)),
    (staged s 4 3, into 0 4095 (staged s 4 3)), (staged s 4 4, into 1 255 (staged s 4 4)),
    (staged s 4 5, into 0 1 (staged s 4 5)), (staged s 4 6, into 0 1 (staged s 4 6)),
    (staged s 4 7, into 0 1024 (staged s 4 7)), (staged s 4 8, into 0 1024 (staged s 4 8))]

/-- Group 5 as staged: K.FF_F and K.FF_T signed (section 6.7, R105). -/
def shockGroup (s : State) : ShockParams :=
  { start := into 1 2048 (staged s 5 0), stop := into 1 2048 (staged s 5 1), quiet := into 1 65535 (staged s 5 2),
    ffF := stagedInt s 5 3, ffT := stagedInt s 5 4, ffLimit := into 0 1023 (staged s 5 5),
    ffEnable := into 0 1 (staged s 5 6) }

/-- The words of group 5 that its clamps change. -/
def shockCount (s : State) : Nat :=
  clampCount [(staged s 5 0, into 1 2048 (staged s 5 0)), (staged s 5 1, into 1 2048 (staged s 5 1)),
    (staged s 5 2, into 1 65535 (staged s 5 2)), (staged s 5 5, into 0 1023 (staged s 5 5)),
    (staged s 5 6, into 0 1 (staged s 5 6))]

/-- The Position Controller's members of group 6 as staged (sections 3.11 and 4.9, R58, R75). -/
def positionGroup (s : State) : PositionParams :=
  { searchAmp := into 1 1023 (staged s 6 0), searchStep := into 1 1023 (staged s 6 1),
    searchSweeps := into 1 255 (staged s 6 2), focusPullin := into 0 4095 (staged s 6 3),
    focusLoss := into 0 4095 (staged s 6 4), lossRun := into 1 65535 (staged s 6 5), lockRun := into 1 65535 (staged s 6 6),
    feWindow := into 1 2048 (staged s 6 7), teWindow := into 1 2048 (staged s 6 8),
    pullinInterval := into 1 65535 (staged s 6 9), kickDuty := into 0 1023 (staged s 6 10),
    jumpBrakeDuty := into 0 1023 (staged s 6 11), jumpBrakeTime := staged s 6 12, hyst := into 0 2047 (staged s 6 13),
    mirror := into 0 4095 (staged s 6 14), brakeDist := staged s 6 15, trackMax := staged s 6 16, settle := staged s 6 17,
    seekTimeout := into 1 65535 (staged s 6 18), retrackTimeout := into 1 65535 (staged s 6 25) }

/-- The words of the Position Controller's members that its clamps change. -/
def positionCount (s : State) : Nat :=
  clampCount [(staged s 6 0, into 1 1023 (staged s 6 0)), (staged s 6 1, into 1 1023 (staged s 6 1)),
    (staged s 6 2, into 1 255 (staged s 6 2)), (staged s 6 3, into 0 4095 (staged s 6 3)),
    (staged s 6 4, into 0 4095 (staged s 6 4)), (staged s 6 5, into 1 65535 (staged s 6 5)),
    (staged s 6 6, into 1 65535 (staged s 6 6)), (staged s 6 7, into 1 2048 (staged s 6 7)),
    (staged s 6 8, into 1 2048 (staged s 6 8)), (staged s 6 9, into 1 65535 (staged s 6 9)),
    (staged s 6 10, into 0 1023 (staged s 6 10)), (staged s 6 11, into 0 1023 (staged s 6 11)),
    (staged s 6 13, into 0 2047 (staged s 6 13)), (staged s 6 14, into 0 4095 (staged s 6 14)),
    (staged s 6 18, into 1 65535 (staged s 6 18)), (staged s 6 25, into 1 65535 (staged s 6 25))]

/-- The Recovery Controller's members of group 6 as staged (section 8.8, R151). -/
def recoveryGroup (s : State) : RecoveryParams :=
  { budget := into 0 15 (staged s 6 19), mask := into 0 255 (staged s 6 20), refTimeout := into 1 65535 (staged s 6 21),
    confirm := into 1 65535 (staged s 6 22), quietWait := staged s 6 23, respinTimeout := into 1 65535 (staged s 6 24) }

/-- The words of the Recovery Controller's members that its clamps change. -/
def recoveryCount (s : State) : Nat :=
  clampCount [(staged s 6 19, into 0 15 (staged s 6 19)), (staged s 6 20, into 0 255 (staged s 6 20)),
    (staged s 6 21, into 1 65535 (staged s 6 21)), (staged s 6 22, into 1 65535 (staged s 6 22)),
    (staged s 6 24, into 1 65535 (staged s 6 24))]

/-- V.LOW as staged. -/
def lowOf (s : State) : Nat := into 1 65535 (staged s 7 5)

/-- V.DIP as staged, at least V.LOW. -/
def dipOf (s : State) : Nat := into (lowOf s) 65535 (staged s 7 4)

/-- V.RESTORE as staged, at least V.DIP. -/
def restoreOf (s : State) : Nat := into (dipOf s) 65535 (staged s 7 6)

/-- Group 7 as staged (section 10.6, R178). -/
def supplyGroup (s : State) : SupplyParams :=
  { invert := into 0 31 (staged s 7 0), idle := into 0 15 (staged s 7 1), ksp := staged s 7 2, nominal := staged s 7 3,
    dip := dipOf s, low := lowOf s, restore := restoreOf s, ride := staged s 7 7, restoreTime := staged s 7 8,
    comp := into 0 1 (staged s 7 9) }

/-- The words of group 7 that its clamps change. -/
def supplyCount (s : State) : Nat :=
  clampCount [(staged s 7 0, into 0 31 (staged s 7 0)), (staged s 7 1, into 0 15 (staged s 7 1)),
    (staged s 7 5, lowOf s), (staged s 7 4, dipOf s), (staged s 7 6, restoreOf s), (staged s 7 9, into 0 1 (staged s 7 9))]

/-- The Loading Controller's members of group 8 as staged (section 9.7, R167). -/
def loadingGroup (s : State) : LoadingParams :=
  { loadDuty := into 0 1023 (staged s 8 0), debounce := into 0 255 (staged s 8 1),
    insertTimeout := into 1 65535 (staged s 8 2), clampTimeout := into 1 65535 (staged s 8 3),
    ejectTimeout := into 1 65535 (staged s 8 4), presentTimeout := staged s 8 5 }

/-- The words of the Loading Controller's members that its clamps change. -/
def loadingCount (s : State) : Nat :=
  clampCount [(staged s 8 0, into 0 1023 (staged s 8 0)), (staged s 8 1, into 0 255 (staged s 8 1)),
    (staged s 8 2, into 1 65535 (staged s 8 2)), (staged s 8 3, into 1 65535 (staged s 8 3)),
    (staged s 8 4, into 1 65535 (staged s 8 4))]

/-- The Trace Capture Unit's members of group 8 as staged (R194). -/
def captureGroup (s : State) : CaptureParams :=
  { pre := into 0 255 (staged s 8 7), decimate := into 1 255 (staged s 8 8), triggers := into 0 15 (staged s 8 9) }

/-- The words of the Trace Capture Unit's members that its clamps change. -/
def captureCount (s : State) : Nat :=
  clampCount [(staged s 8 7, into 0 255 (staged s 8 7)), (staged s 8 8, into 1 255 (staged s 8 8)),
    (staged s 8 9, into 0 15 (staged s 8 9))]

/-- A value limited to ±l. -/
def toLimit (l : Nat) (v : Int) : Int := max (-(l : Int)) (min (l : Int) v)

/-- The rows by which the Spindle Controller works. -/
def spindleRow : Instr → Bool
  | .hallStateTaken _ _ | .speedUpdate _ _ | .regulationEntry _ _ | .regulationExit _ _ => true
  | .spindleSet _ | .stallTimerExpiry _ | .stopTimerExpiry _ | .brakeTimerExpiry _ | .spinCommandTimeout _ => true
  | .supplyStateReport _ | .loadingStateReport _ | .loadingStopRequest | .unloadNoticeSpindle => true
  | .spindleEnableReport _ | .seekTargetSend _ | .trackCounterReport _ _ => true
  | .spinCav _ | .spinClv _ | .spinStop _ | .respinRequest _ | .spindleGroupApply | .resetServoSpindle => true
  | _ => false

/-- The spindle runs (R116). -/
abbrev running (st : SpindleState) : Prop := st = .starting ∨ st = .slewing ∨ st = .regulating

/-- The speed loop runs in SLEWING and REGULATING, where group 3 waits (R129). -/
abbrev looping (st : SpindleState) : Prop := st = .slewing ∨ st = .regulating

end Sys2Proof.Claims

/-- Each owner copies its group from the staging image, word by word as Table 11-7 places them, brings each value outside its
range to the nearer end, and reports how many values that changed; groups 0 to 2 at their loop sample, group 3 at once unless
the speed loop runs, where it waits for the next speed update (R36, R58, R75, R95, R105, R129, R151, R167, R178, R185, R194).
What the present timer is after group 8 is the model's reading (log 25). That a new L.LOAD_DUTY is delivered at once whatever the
actuator output enable view (log 62), and that a group handed over again while it waits is counted (log 23), is the model's
choice. -/
def Sys2Proof.Claims.GroupAppliesCopyStagedValues : Prop :=
  ∀ s : State, s.held = false →
    exec .positionGroupApply s = .next (Claims.sent s .positionGroupApply
      [.groupAppliedReport .position (Claims.positionCount s)] [] { s with pos := { s.pos with params := Claims.positionGroup s } })
    ∧ exec .defectGroupApply s = .next (Claims.sent s .defectGroupApply
      [.groupAppliedReport .defect (Claims.defectCount s)] [] { s with defect := { s.defect with params := Claims.defectGroup s } })
    ∧ exec .shockGroupApply s = .next (Claims.sent s .shockGroupApply
      [.groupAppliedReport .shock (Claims.shockCount s)] [] { s with shock := { s.shock with params := Claims.shockGroup s } })
    ∧ exec .supplyGroupApply s = .next (Claims.sent s .supplyGroupApply
      [.groupAppliedReport .supply (Claims.supplyCount s)] [] { s with drive := { s.drive with params := Claims.supplyGroup s } })
    ∧ exec .captureGroupApply s = .next (Claims.sent s .captureGroupApply
      [.groupAppliedReport .capture (Claims.captureCount s)] [] { s with cap := { s.cap with params := Claims.captureGroup s } })
    ∧ exec .noticeGroupApply s = .next (Claims.sent s .noticeGroupApply
      [.groupAppliedReport .notice (if Claims.staged s 8 6 ≤ 255 then 0 else 1)] []
      { s with bus := { s.bus with enable := BitVec.ofNat 8 (min 255 (Claims.staged s 8 6)) } })
    ∧ (¬(s.recov.state = .active ∧ (Claims.recoveryGroup s).budget < s.recov.attempts) →
      exec .recoveryGroupApply s = .next (Claims.sent s .recoveryGroupApply
        [.groupAppliedReport .recovery (Claims.recoveryCount s)] []
        { s with recov := { s.recov with params := Claims.recoveryGroup s } }))
    ∧ (s.recov.state = .active → (Claims.recoveryGroup s).budget < s.recov.attempts →
      ∃ t, exec .recoveryGroupApply s = .next t ∧ Claims.onlyRecov s t
        ∧ t.recov.params = Claims.recoveryGroup s ∧ t.recov.state = .failed
        ∧ .groupAppliedReport .recovery (Claims.recoveryCount s) ∈ t.transit
        ∧ .noticeRaise .recoveryEnd ∈ t.transit)
    ∧ exec .loadingGroupApply s = .next (Claims.sent s .loadingGroupApply
      (Claims.onlyIf (decide (s.load.spindle = .stopped ∧ motorDir s.load.state ≠ 0))
          (.dutyDelivery (.load (motorDir s.load.state * (Claims.loadingGroup s).loadDuty)))
        ++ [.groupAppliedReport .loading (Claims.loadingCount s)]) []
      { s with load := { s.load with
          params := Claims.loadingGroup s,
          presentTimer :=
            if s.load.state = .presented ∧ (Claims.loadingGroup s).presentTimeout ≠ 0 then
              some (s.load.presentTimer.getD 0)
            else none } })
    ∧ (s.spin.state ≠ .slewing → s.spin.state ≠ .regulating →
      ∃ t, exec .spindleGroupApply s = .next t ∧ Claims.onlySpin s t
        ∧ t.spin.params = Claims.spindleGroup s ∧ t.spin.awaiting = 0 ∧ t.spin.state = s.spin.state
        ∧ t.spin.integ = Claims.toLimit (Claims.spindleGroup s).limit s.spin.integ
        ∧ t.spin.duty = Claims.toLimit (Claims.spindleGroup s).limit s.spin.duty
        ∧ .groupAppliedReport .spindle (Claims.spindleCount s) ∈ t.transit)
    ∧ (s.spin.state = .slewing ∨ s.spin.state = .regulating →
      ∃ t, exec .spindleGroupApply s = .next t ∧ Claims.onlySpin s t
        ∧ t.spin.params = s.spin.params ∧ t.spin.awaiting = s.spin.awaiting + 1 ∧ t.spin.state = s.spin.state)
    ∧ (∀ h u r, s.spin.awaiting ≠ 0 → Claims.forward s.spin.hall h → s.spin.refTime = some r → s.spin.phase = 5 →
      ∃ t, exec (.speedUpdate h u) s = .next t ∧ .speedUpdate ∈ t.subs
        ∧ t.spin.params = Claims.spindleGroup s ∧ t.spin.awaiting = 0
        ∧ .groupAppliedReport .spindle (Claims.spindleCount s) ∈ t.transit)
    ∧ (∀ x, s.loop.focus.awaiting ≠ 0 →
      ∃ t, exec (.loopSampleSet x) s = .next t ∧ t.loop.focus.awaiting = 0
        ∧ t.loop.focus.params = Claims.loopGroup s 0
        ∧ .groupAppliedReport .focus (Claims.loopCount s 0) ∈ t.transit)
    ∧ (∀ x, s.loop.track.awaiting ≠ 0 →
      ∃ t, exec (.loopSampleSet x) s = .next t ∧ t.loop.track.awaiting = 0
        ∧ t.loop.track.params = Claims.loopGroup s 1
        ∧ .groupAppliedReport .track (Claims.loopCount s 1) ∈ t.transit)
    ∧ (∀ x, s.loop.sled.awaiting ≠ 0 →
      ∃ t, exec (.loopSampleSet x) s = .next t ∧ t.loop.sled.awaiting = 0
        ∧ t.loop.sled.params = Claims.sledGroup s
        ∧ .groupAppliedReport .sled (Claims.sledCount s) ∈ t.transit)

/-- What an owner takes from any staging image lies in the ranges of its chapter. -/
def Sys2Proof.Claims.StagedValuesLieInTheirRanges : Prop :=
  ∀ img : Memory,
    (∀ k, (stagedLoopParams img k).1.limit ≤ 1023 ∧ (stagedLoopParams img k).1.shiftN ≤ 31
      ∧ (stagedLoopParams img k).1.bias.natAbs ≤ 1023 ∧ 1 ≤ (stagedLoopParams img k).1.limitRun
      ∧ 1 ≤ (stagedLoopParams img k).1.holdMax ∧ ∀ n ∈ (stagedLoopParams img k).1.trim, n ≤ 32767)
    ∧ (stagedSledParams img).1.limit ≤ 1023 ∧ (stagedSledParams img).1.deadband ≤ 1023
    ∧ (stagedSledParams img).1.seekDuty ≤ 1023
    ∧ 1 ≤ (stagedSpindleParams img).1.pMin ∧ (stagedSpindleParams img).1.pMin ≤ (stagedSpindleParams img).1.pMax
    ∧ (stagedSpindleParams img).1.pMax ≤ 1000000 ∧ (stagedSpindleParams img).1.limit ≤ 1023
    ∧ (stagedSpindleParams img).1.deadtime ≤ 255
    ∧ 1 ≤ (stagedDefectParams img).1.alpha ∧ (stagedDefectParams img).1.alpha ≤ 64
    ∧ 1 ≤ (stagedDefectParams img).1.filter ∧ (stagedDefectParams img).1.filter ≤ 255
    ∧ (stagedDefectParams img).1.guardUnits ≤ 1024 ∧ (stagedDefectParams img).1.mergeGap ≤ 1024
    ∧ 1 ≤ (stagedShockParams img).1.start ∧ (stagedShockParams img).1.start ≤ 2048
    ∧ 1 ≤ (stagedShockParams img).1.quiet ∧ (stagedShockParams img).1.ffLimit ≤ 1023
    ∧ 1 ≤ (stagedPositionParams img).1.searchAmp ∧ (stagedPositionParams img).1.searchAmp ≤ 1023
    ∧ 1 ≤ (stagedPositionParams img).1.lossRun ∧ 1 ≤ (stagedPositionParams img).1.lockRun
    ∧ (stagedPositionParams img).1.hyst ≤ 2047
    ∧ (stagedRecoveryParams img).1.budget ≤ 15 ∧ (stagedRecoveryParams img).1.mask ≤ 255
    ∧ 1 ≤ (stagedSupplyParams img).1.low ∧ (stagedSupplyParams img).1.low ≤ (stagedSupplyParams img).1.dip
    ∧ (stagedSupplyParams img).1.dip ≤ (stagedSupplyParams img).1.restore
    ∧ (stagedSupplyParams img).1.restore ≤ 65535
    ∧ (stagedLoadingParams img).1.loadDuty ≤ 1023 ∧ (stagedLoadingParams img).1.debounce ≤ 255
    ∧ (stagedNoticeEnable img).1 ≤ 255
    ∧ (stagedCaptureParams img).1.pre ≤ 255 ∧ 1 ≤ (stagedCaptureParams img).1.decimate
    ∧ (stagedCaptureParams img).1.decimate ≤ 255 ∧ (stagedCaptureParams img).1.triggers ≤ 15

/-- A group 3 that waits is applied at the event by which the spindle leaves SLEWING and REGULATING, whichever it is (R129). -/
def Sys2Proof.Claims.WaitingGroupAppliesWhereTheLoopIsLeft : Prop :=
  ∀ (s : State) (i : Instr), s.held = false → s.spin.awaiting ≠ 0 → Claims.looping s.spin.state →
    Claims.spindleRow i = true →
    ∃ t, exec i s = .next t ∧ (¬ Claims.looping t.spin.state →
      t.spin.params = Claims.spindleGroup s ∧ t.spin.awaiting = 0
        ∧ .groupAppliedReport .spindle (Claims.spindleCount s) ∈ t.transit)

/-- Each owner copies its group from the staging image, word by word, clamped, and reports the count of values changed; groups 0
to 2 at their loop sample, group 3 at once unless the speed loop runs, where it waits for the next speed update, or for the event
that leaves SLEWING and REGULATING (R36, R58, R75, R95, R105, R129, R151, R167, R178, R185, R194). What an owner takes from any
staging image lies in the ranges of its chapter. What the present timer is after group 8 is the model's reading (log 25). That a new L.LOAD_DUTY is delivered at once whatever the actuator output enable
view (log 62), and that a group handed over again while it waits is counted (log 23), is the model's choice. -/
def Obligations.GroupsApplyStagedValuesInRange : Prop :=
  Claims.GroupAppliesCopyStagedValues ∧ Claims.WaitingGroupAppliesWhereTheLoopIsLeft ∧ Claims.StagedValuesLieInTheirRanges

/-! ## RESET SERVO at each block -/

namespace Sys2Proof.Claims

/-- A loop after RESET SERVO (R38): OFF, its delays, holds, counts, output and feed-forward cleared, its request dropped; its
gain sets, event fields and parameters kept. -/
def loopReset (l : Loop) : Loop :=
  { l with state := .off, d1 := Delay.zero, d2 := Delay.zero, holds := HoldSet.empty, held := none, holdCount := 0,
           limitCount := 0, last := 0, ff := 0, lock := false, request := none }

/-- BRAKING is entered by RESET SERVO: the enable view is set, and the state is none of STOPPED, FAULT and BRAKING (R122). -/
abbrev brakesAtReset (b : Spin) : Prop :=
  b.state ≠ .stopped ∧ b.state ≠ .fault ∧ b.state ≠ .braking ∧ b.views.enable = true

/-- The spindle state after RESET SERVO (R122, R130). -/
def stateAtReset (b : Spin) : SpindleState :=
  if b.state = .stopped then .stopped else if b.state = .fault ∨ b.views.enable = false then .coasting else .braking

/-- The Spindle Controller's registers after RESET SERVO by the table of R130: a braking stop (R122), the pattern, the magnitude
and the stop timer left as they are. -/
def spinReset (s : State) : Spin :=
  { s.spin with
    state := stateAtReset s.spin, target := none, stopKind := if s.spin.state = .stopped then none else some .brake,
    integ := 0, duty := 0, inRun := 0, outRun := 0, seekTarget := none, work := none, respin := none, stallTimer := none,
    brakeDrive :=
      if brakesAtReset s.spin then decide (s.spin.params.brakeMode = 1)
      else if stateAtReset s.spin = .braking then s.spin.brakeDrive else false,
    brakeTimer :=
      if brakesAtReset s.spin then (if s.spin.params.brakeMode = 1 then some 0 else none)
      else if stateAtReset s.spin = .braking then s.spin.brakeTimer else none,
    params := if looping s.spin.state ∧ s.spin.awaiting ≠ 0 then spindleGroup s else s.spin.params,
    awaiting := if looping s.spin.state then 0 else s.spin.awaiting }

/-- The Recovery Controller's registers after RESET SERVO by the table of R152; a plan is abandoned (R147). -/
def recovReset (b : Rec) : Rec :=
  let c := { b with state := .idle, conditions := 0, outcome := none, waiting := false, holdSeen := true }
  if b.state = .active then
    { c with step := none, phase := none, timer := none, refTaken := false, lastOutcome := some .abandoned }
  else c

end Sys2Proof.Claims

/-- What each block does when it takes RESET SERVO: work in flight ends INTERRUPTED, motion stops, and what the chapter says is
kept is kept (R13, R38, R59, R76, R96, R106, R130, R147, R152, R168, R179, R194). That a sled request not yet taken is dropped
with the loops' requests is the model's reading (log 15), as is that a RESET SERVO taken in BRAKING keeps the brake drive and its
timer (log 24); that a BRAKING entered while a group 3 waits is entered with the old SP.BRAKE_MODE is the model's choice (log
48). -/
def Obligations.ResetServoStopsEachBlock : Prop :=
  ∀ s : State, s.held = false →
    exec .resetServoFrontEnd s = .next (Claims.sent s .resetServoFrontEnd
      (Claims.interrupted s.fe ++ Claims.onlyIf s.fe.laser (.neighbourReport (.laser false))) []
      { s with fe := { s.fe with laser := false, calibration := none } })
    ∧ (∃ t, exec .resetServoLoop s = .next t ∧ Claims.onlyLoop s t
      ∧ t.loop = { s.loop with
          focus := Claims.loopReset s.loop.focus, track := Claims.loopReset s.loop.track,
          sled := { s.loop.sled with mode := .loop, sum := 0, phase := 0, lastDuty := 0, request := none } }
      ∧ .dutyDelivery (.focus 0) ∈ t.transit ∧ .dutyDelivery (.track 0) ∈ t.transit
      ∧ .dutyDelivery (.sled 0) ∈ t.transit)
    ∧ (∃ t, exec .resetServoPosition s = .next t ∧ Claims.onlyPos s t
      ∧ t.pos = { s.pos with
          state := .idle, work := none, search := none, pull := none, parkTimer := none, motion := none, prevFe := none,
          lockRun := 0, lossRun := 0, armed := false, valid := false }
      ∧ (∀ k tag code, s.pos.work = some { kind := k, origin := .command tag code } →
          Claims.done tag code .interrupted (Claims.valueAt s.pos s.pos.counter k) ∈ t.transit))
    ∧ (∃ t, exec .resetServoSpindle s = .next t ∧ Claims.onlySpin s t
      ∧ t.spin = { Claims.spinReset s with
          pattern := t.spin.pattern, magnitude := t.spin.magnitude, stopTimer := t.spin.stopTimer }
      ∧ (Claims.running s.spin.state → t.spin.state = .coasting ∨ t.spin.magnitude = 0 → t.spin.stopTimer = some 0)
      ∧ (t.spin.state = .stopped ∨ (t.spin.state = .braking ∧ t.spin.magnitude ≠ 0) → t.spin.stopTimer = none)
      ∧ (s.spin.awaiting ≠ 0 → Claims.looping s.spin.state →
          .groupAppliedReport .spindle (Claims.spindleCount s) ∈ t.transit)
      ∧ (∀ k, s.spin.work = some k →
          Claims.done k.tag k.code .interrupted (if k.isStop then 0 else (Claims.spinValue s.spin)) ∈ t.transit))
    ∧ (∃ t, exec .resetServoDefect s = .next t ∧ Claims.onlyDefect s t
      ∧ t.defect = { s.defect with
          det := .inactive, pendingInit := false, openRun := 0, closeRun := 0, freeze := none, window := none,
          openRec := if s.defect.det = .opened then none else s.defect.openRec }
      ∧ (s.defect.det = .opened → .holdSourceRequest .both .defect false ∈ t.transit)
      ∧ (s.defect.window.isSome = true → .holdSourceRequest .both .predict false ∈ t.transit))
    ∧ exec .resetServoShock s = .next (Claims.sent s .resetServoShock [] [] s)
    ∧ exec .resetServoRecovery s = .next (Claims.sent s .resetServoRecovery
      (Claims.onlyIf s.recov.waiting (.referenceWaitReport false)
        ++ Claims.onlyIf (decide (s.recov.state ≠ .idle)) (.neighbourReport (.recovery .idle))
        ++ Claims.onlyIf (decide (s.recov.state = .active)) (.noticeRaise .recoveryEnd)) []
      { s with recov := Claims.recovReset s.recov })
    ∧ exec .resetServoLoading s = .next (Claims.sent s .resetServoLoading
      (match s.load.work with
        | none => []
        | some k => [Claims.done k.tag (if k.isLoad then 0x50 else 0x51) .interrupted
                      (BitVec.ofNat 16 (Claims.place Claims.loadingTable s.load.state))]) []
      { s with load := { s.load with work := none } })
    ∧ exec .resetServoOutputs s = .next (Claims.sent s .resetServoOutputs [] [] s)
    ∧ exec .resetServoCapture s = .next (Claims.sent s .resetServoCapture [] []
      { s with cap := { s.cap with state := .idle, decim := 0, post := none } })

/-! ## Position Controller: the set -/

namespace Sys2Proof.Claims

/-- RS of the set does not count toward a focus loss (R46). -/
def bright (b : Pos) (x : SampleSet) : Prop := b.views.focus = .closed → (b.params.focusLoss : Int) < x.rs

/-- A crossing event comes with the set (R60). -/
def crosses (b : Pos) (x : SampleSet) : Prop :=
  (b.views.focus = .closed ∨ b.views.focus = .hold) ∧ b.views.held = false ∧ b.armed = true ∧ (b.params.hyst : Int) < x.te

/-- The direction of a crossing (R60). -/
def dirOf (b : Pos) (x : SampleSet) : Int := if x.rs < (b.params.mirror : Int) then -1 else 1

/-- The counter after a step of d (R61). -/
def steppedTo (counter : Nat) (d : Int) : Nat :=
  if (counter : Int) + d < 0 ∨ 65535 < (counter : Int) + d then counter else ((counter : Int) + d).toNat

/-- The valid flag after a step of d (R61). -/
def steppedValid (counter : Nat) (valid : Bool) (d : Int) : Bool :=
  if (counter : Int) + d < 0 ∨ 65535 < (counter : Int) + d then false else valid

/-- What a change of the counter to (c, valid) reports (R61). -/
def counterReports (b : Pos) (c : Nat) (valid : Bool) : List Instr :=
  if b.counter = c ∧ b.valid = valid then []
  else [.defectNeighbourReport (.counter c valid), .trackCounterReport c valid, .recoveryViewReport (.counter c valid)]

/-- The block after a crossing detector step, FE of the set remembered (R44, R60). -/
def detectedQuiet (b : Pos) (x : SampleSet) : Pos :=
  { b with lastStamp := x.stamp, prevFe := some x.fe, mirror := decide (x.rs < (b.params.mirror : Int)),
           armed := decide ((b.views.focus = .closed ∨ b.views.focus = .hold) ∧ b.views.held = false
             ∧ (b.armed = true ∨ x.te < -(b.params.hyst : Int))) }

/-- What the end of the work in flight sends (R39): a completion with its command's value, or the outcome of a request. -/
def ended (b : Pos) (counter : Nat) (r : Result) (o : Option StepOutcome) : List Instr :=
  match b.work with
  | some { kind := k, origin := .command tag code } =>
    [done tag code r (valueAt b counter k)]
  | some { kind := _, origin := .recovery n } => (o.map (fun o => Instr.stepReport n o)).toList
  | _ => []

/-- The Position Controller has worked, and a lock indicator may be set (R17). -/
def posSet (s t : State) : Prop :=
  t = { s with
    pos := t.pos, transit := t.transit, subs := t.subs,
    loop := { s.loop with focus := { s.loop.focus with lock := t.loop.focus.lock },
                          track := { s.loop.track with lock := t.loop.track.lock } } }

/-- The motion record with its seek timer counted (R70). -/
def timed (m : Motion) : Motion := if m.isSeek then { m with seekTimer := m.seekTimer + 1 } else m

/-- The seek timer does not expire at this set (R70). -/
def inTime (b : Pos) (m : Motion) : Prop := m.isSeek = true → m.seekTimer + 1 < 50 * b.params.seekTimeout

end Sys2Proof.Claims

/-- At a set with nothing else to do, the detector counts a crossing in its direction, stops at the ends of the range,
reports the change, and a crossing of a locked track is a slip (R60, R61, R63); nothing else happens. -/
def Sys2Proof.Claims.CrossingsAtRest : Prop :=
  ∀ (s : State) (x : SampleSet), s.held = false →
    (s.pos.state = .idle ∨ s.pos.state = .focused ∨ s.pos.state = .onTrack) → s.pos.motion = none → Claims.bright s.pos x →
    ∀ lossRun, lossRun = (if s.pos.state ≠ .idle ∧ s.pos.views.focus = .closed then 0 else s.pos.lossRun) →
    (¬ Claims.crosses s.pos x →
      exec (.positionSet x) s = .next (Claims.sent s (.positionSet x) [] []
        { s with pos := { Claims.detectedQuiet s.pos x with lossRun := lossRun } }))
    ∧ (Claims.crosses s.pos x →
      exec (.positionSet x) s = .next (Claims.sent s (.positionSet x)
        (Claims.counterReports s.pos (Claims.steppedTo s.pos.counter (Claims.dirOf s.pos x))
            (Claims.steppedValid s.pos.counter s.pos.valid (Claims.dirOf s.pos x))
          ++ Claims.onlyIf (decide (s.pos.views.track = .closed) && s.loop.track.lock) (.condition .trackSlip)) []
        { s with pos := { Claims.detectedQuiet s.pos x with
            lossRun := lossRun, armed := false, lastDir := some (Claims.dirOf s.pos x),
            counter := Claims.steppedTo s.pos.counter (Claims.dirOf s.pos x),
            valid := Claims.steppedValid s.pos.counter s.pos.valid (Claims.dirOf s.pos x) } }))

namespace Sys2Proof.Claims

/-- A report of the track counter, or a track slip (R61, R63). -/
def ofCounter (i : Instr) : Prop :=
  i = .condition .trackSlip
    ∨ ∃ c v, i = .defectNeighbourReport (.counter c v) ∨ i = .trackCounterReport c v ∨ i = .recoveryViewReport (.counter c v)

/-- What a set reports of the counter, at (c, valid) after it, and of a slip comes first; what the rules of the position state
send follows, and has none of these (R61, R63). -/
def reportsFirst (s t : State) (x : SampleSet) (reports : List Instr) : Prop :=
  ∃ out, t.transit = s.transit.erase (.positionSet x) ++ reports ++ out ∧ ∀ i ∈ out, ¬ ofCounter i

end Sys2Proof.Claims

/-- In every position state, and whatever its rules do at the set, the detector counts a crossing in its direction, stops at the
ends of the range, reports the change, and a crossing of a locked track is a slip (R60, R61, R63). The FE of the set becomes the
previous FE (log 16). -/
def Sys2Proof.Claims.CrossingsInEveryState : Prop :=
  ∀ (s : State) (x : SampleSet), s.held = false →
    ∃ t, exec (.positionSet x) s = .next t ∧ Claims.posSet s t
      ∧ t.pos.lastStamp = x.stamp ∧ t.pos.prevFe = some x.fe ∧ t.pos.mirror = decide (x.rs < (s.pos.params.mirror : Int))
      ∧ t.pos.views = s.pos.views ∧ t.pos.params = s.pos.params
      ∧ (¬ Claims.crosses s.pos x →
        t.pos.armed = (Claims.detectedQuiet s.pos x).armed ∧ t.pos.lastDir = s.pos.lastDir
          ∧ t.pos.counter = s.pos.counter ∧ t.pos.valid = s.pos.valid ∧ Claims.reportsFirst s t x [])
      ∧ (Claims.crosses s.pos x →
        t.pos.armed = false ∧ t.pos.lastDir = some (Claims.dirOf s.pos x)
          ∧ t.pos.counter = Claims.steppedTo s.pos.counter (Claims.dirOf s.pos x)
          ∧ t.pos.valid = Claims.steppedValid s.pos.counter s.pos.valid (Claims.dirOf s.pos x)
          ∧ Claims.reportsFirst s t x
              (Claims.counterReports s.pos (Claims.steppedTo s.pos.counter (Claims.dirOf s.pos x))
                  (Claims.steppedValid s.pos.counter s.pos.valid (Claims.dirOf s.pos x))
                ++ Claims.onlyIf (decide (s.pos.views.track = .closed) && s.loop.track.lock) (.condition .trackSlip)))

/-- At a set, in every position state, the detector counts a crossing in its direction, stops at the ends of the range, reports the
change, and a crossing of a locked track is a slip (R60, R61, R63); in IDLE, FOCUSED and ON_TRACK without a motion nothing else
happens at a set that is not dim. That the FE of the set becomes the previous FE in every state is the model's reading (log 16). -/
def Obligations.CrossingDetectorCountsTracks : Prop :=
  Claims.CrossingsInEveryState ∧ Claims.CrossingsAtRest

namespace Sys2Proof.Claims

/-- The pull-in test (R44). -/
def pullIn (b : Pos) (x : SampleSet) : Prop :=
  (b.params.focusPullin : Int) < x.rs
    ∧ (x.fe = 0 ∨ ∃ p, b.prevFe = some p ∧ (0 < x.fe ∧ p < 0 ∨ x.fe < 0 ∧ 0 < p))

/-- The end of a traverse (R43). -/
def traverse (b : Pos) (up : Bool) : Int := if up then (b.params.searchAmp : Int) else -(b.params.searchAmp : Int)

/-- One step of the drive toward the end of a traverse, not past it (R43). -/
def driveTo (b : Pos) (up : Bool) (drive : Int) : Int :=
  if up then min (b.params.searchAmp : Int) (drive + b.params.searchStep)
  else max (-(b.params.searchAmp : Int)) (drive - b.params.searchStep)

end Sys2Proof.Claims

/-- A search moves its drive, turns at the ends, gives up after its sweeps, and closes at a pull-in (R43, R44). That a drive
beyond a lowered P.SEARCH_AMP on the far side takes the ordinary step is the model's choice (log 46). -/
def Obligations.FocusSearchMovesAndCloses : Prop :=
  ∀ (s : State) (x : SampleSet) (r : SearchRec), s.held = false → s.pos.state = .focusSearch → s.pos.search = some r →
    (Claims.pullIn s.pos x →
      ∃ t, exec (.positionSet x) s = .next t ∧ Claims.posSet s t ∧ t.pos.state = .focusLocking ∧ t.pos.lockRun = 0
        ∧ t.pos.lossRun = 0 ∧ t.pos.search = some r ∧ .positionRequest .focus .close ∈ t.transit)
    ∧ (¬ Claims.pullIn s.pos x → r.drive ≠ Claims.traverse s.pos r.up →
      ∃ t, exec (.positionSet x) s = .next t ∧ Claims.posSet s t ∧ t.pos.state = .focusSearch
        ∧ t.pos.search = some { r with drive := Claims.driveTo s.pos r.up r.drive }
        ∧ .positionRequest .focus (.drive (Claims.driveTo s.pos r.up r.drive)) ∈ t.transit)
    ∧ (¬ Claims.pullIn s.pos x → r.drive = Claims.traverse s.pos r.up → r.sweeps < s.pos.params.searchSweeps →
      ∃ t, exec (.positionSet x) s = .next t ∧ Claims.posSet s t ∧ t.pos.state = .focusSearch
        ∧ t.pos.search = some { drive := Claims.driveTo s.pos (!r.up) r.drive, up := !r.up, sweeps := r.sweeps + 1 })
    ∧ (¬ Claims.pullIn s.pos x → r.drive = Claims.traverse s.pos r.up → s.pos.params.searchSweeps ≤ r.sweeps →
      ∃ t, exec (.positionSet x) s = .next t ∧ Claims.posSet s t ∧ t.pos.state = .idle ∧ t.pos.search = none
        ∧ t.pos.work = none ∧ .positionRequest .focus .off ∈ t.transit
        ∧ ∀ i ∈ Claims.ended s.pos t.pos.counter .notFound (some .failed), i ∈ t.transit)

/-- FOCUS_LOCK ends the search OK, FOCUS_CLOSURE_ABANDONED opens the loop again (R45), FOCUS_LOST ends the work, opens the loop
and raises the condition (R46). -/
def Sys2Proof.Claims.FocusRunsReachTheirEnds : Prop :=
  ∀ (s : State) (x : SampleSet), s.held = false → s.pos.views.focus = .closed →
    (∀ r, s.pos.state = .focusLocking → s.pos.search = some r → x.fe.natAbs < s.pos.params.feWindow →
      (s.pos.params.focusLoss : Int) < x.rs → s.pos.params.lockRun ≤ satIncr s.pos.lockRun →
      ∃ t, exec (.focusLock x) s = .next t ∧ Claims.posSet s t ∧ .focusLock ∈ t.subs ∧ t.pos.state = .focused
        ∧ t.pos.work = none ∧ t.pos.search = none ∧ t.pos.lossRun = 0 ∧ t.loop.focus.lock = true
        ∧ ∀ i ∈ Claims.ended s.pos t.pos.counter .ok (some .done), i ∈ t.transit)
    ∧ (∀ r, s.pos.state = .focusLocking → s.pos.search = some r → x.rs ≤ (s.pos.params.focusLoss : Int) →
      s.pos.params.lossRun ≤ satIncr s.pos.lossRun →
      ∃ t, exec (.focusClosureAbandoned x) s = .next t ∧ Claims.posSet s t ∧ .focusClosureAbandoned ∈ t.subs
        ∧ t.pos.state = .focusSearch ∧ t.pos.search = some r ∧ t.pos.work = s.pos.work ∧ t.pos.lockRun = 0
        ∧ t.pos.lossRun = 0 ∧ .positionRequest .focus (.openWith r.drive) ∈ t.transit)
    ∧ (s.pos.state ≠ .idle → s.pos.state ≠ .focusSearch → s.pos.state ≠ .focusLocking → s.pos.state ≠ .parking →
      x.rs ≤ (s.pos.params.focusLoss : Int) → s.pos.params.lossRun ≤ satIncr s.pos.lossRun →
      ∃ t, exec (.focusLost x) s = .next t ∧ Claims.posSet s t ∧ .focusLost ∈ t.subs ∧ t.pos.state = .idle
        ∧ t.pos.work = none ∧ t.pos.search = none ∧ t.pos.pull = none ∧ t.pos.motion = none ∧ t.pos.lossRun = 0
        ∧ .condition .focusLost ∈ t.transit ∧ .positionRequest .focus .off ∈ t.transit
        ∧ (s.pos.inRun = true → .sledRequest .toLoop ∈ t.transit ∧ .seekTargetSend none ∈ t.transit)
        ∧ ∀ i ∈ Claims.ended s.pos t.pos.counter .interrupted none, i ∈ t.transit)

namespace Sys2Proof.Claims

/-- RS of the set counts toward a focus loss (R45, R46). -/
def dimSet (b : Pos) (x : SampleSet) : Prop := x.rs ≤ (b.params.focusLoss : Int)

/-- The set counts toward the focus lock (R45). -/
def goodSet (b : Pos) (x : SampleSet) : Prop := x.fe.natAbs < b.params.feWindow ∧ ¬ dimSet b x

/-- A set in FOCUS_LOCKING leaves the search going on, with these runs (R45). -/
def lockingGoesOn (s : State) (x : SampleSet) (lock loss : Nat) : Prop :=
  ∃ t, exec (.positionSet x) s = .next t ∧ posSet s t ∧ t.pos.state = .focusLocking ∧ t.pos.search = s.pos.search
    ∧ t.pos.work = s.pos.work ∧ t.pos.lockRun = lock ∧ t.pos.lossRun = loss

/-- The loss detector runs (R46). -/
def watchesFocus (b : Pos) : Prop :=
  b.state ≠ .idle ∧ b.state ≠ .focusSearch ∧ b.state ≠ .focusLocking ∧ b.state ≠ .parking

/-- After a set at which focus is not lost the loss run is `loss`, or 0 where the set enters FOCUSED (R46). -/
def lossRunIs (s : State) (x : SampleSet) (loss : Nat) : Prop :=
  ∃ t, exec (.positionSet x) s = .next t ∧ posSet s t
    ∧ t.pos.lossRun = (if t.pos.state = .focused ∧ s.pos.state ≠ .focused then 0 else loss)

end Sys2Proof.Claims

/-- The sets that end nothing: in FOCUS_LOCKING the lock run and the loss run rise or become 0 by the set while focus is reported
CLOSED, the lock run becomes 0 in HOLD, and both stay in OPEN (R45); where the loss detector runs, the loss run rises or becomes
0 while focus is reported CLOSED, and else stays (R46). -/
def Sys2Proof.Claims.FocusRunsAreCounted : Prop :=
  ∀ (s : State) (x : SampleSet), s.held = false →
    (s.pos.state = .focusLocking → s.pos.views.focus = .closed → s.pos.search.isSome = true →
      (Claims.goodSet s.pos x → satIncr s.pos.lockRun < s.pos.params.lockRun →
        Claims.lockingGoesOn s x (satIncr s.pos.lockRun) 0)
      ∧ (Claims.dimSet s.pos x → satIncr s.pos.lossRun < s.pos.params.lossRun →
        Claims.lockingGoesOn s x 0 (satIncr s.pos.lossRun))
      ∧ (¬ Claims.goodSet s.pos x → ¬ Claims.dimSet s.pos x → Claims.lockingGoesOn s x 0 0))
    ∧ (s.pos.state = .focusLocking → s.pos.views.focus = .hold → Claims.lockingGoesOn s x 0 s.pos.lossRun)
    ∧ (s.pos.state = .focusLocking → s.pos.views.focus = .opened →
      Claims.lockingGoesOn s x s.pos.lockRun s.pos.lossRun)
    ∧ (Claims.watchesFocus s.pos → (s.pos.state = .focused → s.pos.motion = none) →
      (s.pos.views.focus = .closed → Claims.dimSet s.pos x → satIncr s.pos.lossRun < s.pos.params.lossRun →
        Claims.lossRunIs s x (satIncr s.pos.lossRun))
      ∧ (s.pos.views.focus = .closed → ¬ Claims.dimSet s.pos x → Claims.lossRunIs s x 0)
      ∧ (s.pos.views.focus ≠ .closed → Claims.lossRunIs s x s.pos.lossRun))

/-- FOCUS_LOCK ends the search OK, FOCUS_CLOSURE_ABANDONED opens the loop again (R45), FOCUS_LOST ends the work, opens the loop
and raises the condition (R46); at every other set the lock run and the loss run rise, become 0 or stay as the focus loop's
state and the set say (R45, R46). That a loss of focus ends the work before the other rules of the state act on the same set
is the model's choice (log 14). -/
def Obligations.FocusLocksIsAbandonedOrLost : Prop :=
  Claims.FocusRunsReachTheirEnds ∧ Claims.FocusRunsAreCounted

namespace Sys2Proof.Claims

/-- The pull-in or catch p closes the tracking loop at this set (R49). -/
def pullCloses (b : Pos) (x : SampleSet) (p : PullIn) : Prop :=
  p.closed = false ∧ b.views.held = false
    ∧ ((crosses b x ∧ b.params.pullinInterval ≤ (x.stamp - p.lastCross).toNat)
        ∨ (¬ crosses b x ∧ b.params.pullinInterval ≤ satIncr p.quiet))

/-- The pull-in or catch p has its lock at this set (R50). -/
def pullLocks (b : Pos) (x : SampleSet) (p : PullIn) : Prop :=
  p.closed = true ∧ b.views.track = .closed ∧ ¬ crosses b x ∧ x.te.natAbs < b.params.teWindow
    ∧ b.params.lockRun ≤ satIncr p.lockRun

/-- The pull-in or catch record p after a set at which it neither closes nor locks: the quiet count and the last crossing before
the close (R49), the lock run after it (R50), the elapsed time throughout (R48). -/
def pullCounted (b : Pos) (x : SampleSet) (p q : PullIn) : Prop :=
  q.elapsed = p.elapsed + 1 ∧ q.closed = p.closed
    ∧ (p.closed = false → q.lockRun = p.lockRun
        ∧ (b.views.held = true → q.quiet = p.quiet ∧ q.lastCross = p.lastCross)
        ∧ (b.views.held = false → ¬ crosses b x → q.quiet = satIncr p.quiet ∧ q.lastCross = p.lastCross)
        ∧ (crosses b x → q.quiet = 0 ∧ q.lastCross = x.stamp))
    ∧ (p.closed = true → q.quiet = p.quiet ∧ q.lastCross = p.lastCross
        ∧ (b.views.track = .off ∨ b.views.track = .opened → q.lockRun = p.lockRun)
        ∧ (b.views.track = .hold → q.lockRun = 0)
        ∧ (b.views.track = .closed → crosses b x → q.lockRun = 0)
        ∧ (b.views.track = .closed → ¬ crosses b x → b.params.teWindow ≤ x.te.natAbs → q.lockRun = 0)
        ∧ (b.views.track = .closed → ¬ crosses b x → x.te.natAbs < b.params.teWindow → q.lockRun = satIncr p.lockRun))

/-- The pull-in or catch record p after the set at which it closes the loop (R49). -/
def pullClosing (b : Pos) (x : SampleSet) (p q : PullIn) : Prop :=
  q.elapsed = p.elapsed + 1 ∧ q.closed = true ∧ q.lockRun = 0 ∧ q.lastCross = p.lastCross
    ∧ (crosses b x → q.quiet = p.quiet) ∧ (¬ crosses b x → q.quiet = satIncr p.quiet)

end Sys2Proof.Claims

/-- TRACKING_CLOSE comes when the crossings are slow enough (R49), TRACKING_LOCK after the lock run (R50), PULL_IN_TIMEOUT
when R.RETRACK_TIMEOUT has gone by without the lock (R48); at every other set the quiet count, the last crossing, the lock run
and the elapsed time are counted (R48 to R50). A lock comes before a timeout at the same set (R50). -/
def Obligations.PullInClosesLocksOrTimesOut : Prop :=
  ∀ (s : State) (x : SampleSet) (p : PullIn), s.held = false → Claims.bright s.pos x → s.pos.state = .trackPullin →
    s.pos.pull = some p →
    (p.closed = false → s.pos.views.held = false → p.elapsed + 1 < 50 * s.pos.params.retrackTimeout →
      ¬ Claims.crosses s.pos x → s.pos.params.pullinInterval ≤ satIncr p.quiet →
      ∃ t, exec (.trackingClose x) s = .next t ∧ Claims.posSet s t ∧ .trackingClose ∈ t.subs ∧ t.pos.state = .trackPullin
        ∧ t.pos.pull = some { p with elapsed := p.elapsed + 1, quiet := satIncr p.quiet, closed := true, lockRun := 0 }
        ∧ t.pos.work = s.pos.work ∧ .positionRequest .track .close ∈ t.transit)
    ∧ (p.closed = false → p.elapsed + 1 < 50 * s.pos.params.retrackTimeout →
      Claims.crosses s.pos x → s.pos.params.pullinInterval ≤ (x.stamp - p.lastCross).toNat →
      ∃ t, exec (.trackingClose x) s = .next t ∧ Claims.posSet s t ∧ .trackingClose ∈ t.subs ∧ t.pos.state = .trackPullin
        ∧ t.pos.pull = some { p with elapsed := p.elapsed + 1, closed := true, lockRun := 0 }
        ∧ t.pos.work = s.pos.work ∧ .positionRequest .track .close ∈ t.transit)
    ∧ (p.closed = true → s.pos.views.track = .closed → ¬ Claims.crosses s.pos x →
      x.te.natAbs < s.pos.params.teWindow → s.pos.params.lockRun ≤ satIncr p.lockRun →
      ∃ t, exec (.trackingLock x) s = .next t ∧ Claims.posSet s t ∧ .trackingLock ∈ t.subs ∧ t.pos.state = .onTrack
        ∧ t.pos.pull = none ∧ t.pos.work = none ∧ t.loop.track.lock = true
        ∧ ∀ i ∈ Claims.ended s.pos t.pos.counter .ok (some .done), i ∈ t.transit)
    ∧ (¬ Claims.pullCloses s.pos x p → ¬ Claims.pullLocks s.pos x p → p.elapsed + 1 < 50 * s.pos.params.retrackTimeout →
      ∃ t q, exec (.positionSet x) s = .next t ∧ Claims.posSet s t ∧ t.pos.state = .trackPullin ∧ t.pos.pull = some q
        ∧ Claims.pullCounted s.pos x p q ∧ t.pos.work = s.pos.work)
    ∧ (50 * s.pos.params.retrackTimeout ≤ p.elapsed + 1 → ¬ Claims.pullLocks s.pos x p →
      ∃ t, exec (.pullInTimeout x) s = .next t ∧ Claims.posSet s t ∧ .pullInTimeout ∈ t.subs ∧ t.pos.state = .focused
        ∧ t.pos.pull = none ∧ t.pos.work = none ∧ .positionRequest .track .off ∈ t.transit
        ∧ ∀ i ∈ Claims.ended s.pos t.pos.counter .timeout (some .failed), i ∈ t.transit)

/-- A kick ends at its last crossing and the brake begins, the brake ends after P.JUMP_BRAKE_TIME and the landing begins, and
the jump timer cuts a kick short (R66). That a brake ends by its count where the timer ends at the same set is the model's
choice (log 47). -/
def Sys2Proof.Claims.JumpPhasesEnd : Prop :=
  ∀ (s : State) (x : SampleSet) (m : Motion), s.held = false → Claims.bright s.pos x → s.pos.state = .jumping →
    s.pos.motion = some m → Claims.inTime s.pos m →
    (∀ n, m.phase = .kick → Claims.crosses s.pos x → Claims.dirOf s.pos x = m.dir → m.jumpCount ≤ 1 →
      s.pos.params.jumpBrakeTime ≠ 0 → m.jumpTimer = some n → n + 1 < m.jumpSets →
      ∃ t, exec (.kickEnd x) s = .next t ∧ Claims.posSet s t ∧ .kickEnd ∈ t.subs ∧ t.pos.state = .jumping
        ∧ t.pos.work = s.pos.work
        ∧ t.pos.motion = some { Claims.timed m with phase := .brake, brakeCount := 0, jumpCount := 0,
                                                    jumpTimer := some (n + 1) }
        ∧ .positionRequest .track (.drive (-(m.dir * s.pos.params.jumpBrakeDuty))) ∈ t.transit)
    ∧ (m.phase = .brake → s.pos.params.jumpBrakeTime ≤ m.brakeCount + 1 →
      ∃ t, exec (.jumpBrakeEnd x) s = .next t ∧ Claims.posSet s t ∧ .jumpBrakeEnd ∈ t.subs ∧ t.pos.state = .settling
        ∧ t.pos.work = s.pos.work
        ∧ t.pos.motion = some { Claims.timed m with
            phase := .landing, brakeCount := m.brakeCount + 1, jumpTimer := none,
            pull := some { quiet := 0, lastCross := x.stamp, lockRun := 0, elapsed := 0, closed := false } }
        ∧ .positionRequest .track (.drive 0) ∈ t.transit)
    ∧ (∀ n, m.phase = .kick → ¬ Claims.crosses s.pos x → m.jumpTimer = some n → m.jumpSets ≤ n + 1 →
      ∃ t, exec (.jumpTimerExpiry x) s = .next t ∧ Claims.posSet s t ∧ .jumpTimerExpiry ∈ t.subs
        ∧ t.pos.state = .settling ∧ t.pos.work = s.pos.work
        ∧ t.pos.motion = some { Claims.timed m with
            phase := .landing, timedOut := true, jumpTimer := none,
            pull := some { quiet := 0, lastCross := x.stamp, lockRun := 0, elapsed := 0, closed := false } }
        ∧ .positionRequest .track (.drive 0) ∈ t.transit)

namespace Sys2Proof.Claims

/-- The catch record at the start of a landing, at a set with this stamp (R48, R67). -/
def newCatch (stamp : Word) : PullIn := { quiet := 0, lastCross := stamp, lockRun := 0, elapsed := 0, closed := false }

/-- The motion record m at the start of its landing (R67). -/
def landed (m : Motion) (stamp : Word) : Motion :=
  { m with phase := .landing, jumpTimer := none, pull := some (newCatch stamp) }

/-- A set leaves a motion's phase, its work and the position state; the record becomes m (R66, R69). -/
def motionGoesOn (s : State) (x : SampleSet) (m : Motion) : Prop :=
  ∃ t, exec (.positionSet x) s = .next t ∧ posSet s t ∧ t.pos.state = s.pos.state ∧ t.pos.work = s.pos.work
    ∧ t.pos.motion = some m

end Sys2Proof.Claims

/-- A kick counts the crossings of its direction alone and goes on while the timer runs; with P.JUMP_BRAKE_TIME = 0 the landing
begins at the set at which the kick ends; a brake counts its sets, and the jump timer cuts it short (R66). -/
def Sys2Proof.Claims.JumpPhasesGoOnOrAreCut : Prop :=
  ∀ (s : State) (x : SampleSet) (m : Motion) (n : Nat), s.held = false → Claims.bright s.pos x → s.pos.state = .jumping →
    s.pos.motion = some m → Claims.inTime s.pos m → m.jumpTimer = some n →
    (m.phase = .kick → n + 1 < m.jumpSets →
      (Claims.crosses s.pos x → Claims.dirOf s.pos x = m.dir → 1 < m.jumpCount →
        Claims.motionGoesOn s x { Claims.timed m with jumpCount := m.jumpCount - 1, jumpTimer := some (n + 1) })
      ∧ (Claims.crosses s.pos x → Claims.dirOf s.pos x ≠ m.dir →
        Claims.motionGoesOn s x { Claims.timed m with jumpTimer := some (n + 1) })
      ∧ (¬ Claims.crosses s.pos x → Claims.motionGoesOn s x { Claims.timed m with jumpTimer := some (n + 1) }))
    ∧ (m.phase = .kick → Claims.crosses s.pos x → Claims.dirOf s.pos x = m.dir → m.jumpCount ≤ 1 →
      s.pos.params.jumpBrakeTime = 0 →
      ∃ t, exec (.kickEnd x) s = .next t ∧ exec (.jumpBrakeEnd x) s = .next t ∧ Claims.posSet s t ∧ .kickEnd ∈ t.subs
        ∧ .jumpBrakeEnd ∈ t.subs ∧ t.pos.state = .settling ∧ t.pos.work = s.pos.work
        ∧ t.pos.motion = some (Claims.landed { Claims.timed m with brakeCount := 0, jumpCount := 0 } x.stamp)
        ∧ .positionRequest .track (.drive 0) ∈ t.transit)
    ∧ (m.phase = .brake → m.brakeCount + 1 < s.pos.params.jumpBrakeTime →
      (n + 1 < m.jumpSets →
        Claims.motionGoesOn s x { Claims.timed m with brakeCount := m.brakeCount + 1, jumpTimer := some (n + 1) })
      ∧ (m.jumpSets ≤ n + 1 →
        ∃ t, exec (.jumpTimerExpiry x) s = .next t ∧ Claims.posSet s t ∧ .jumpTimerExpiry ∈ t.subs
          ∧ t.pos.state = .settling ∧ t.pos.work = s.pos.work
          ∧ t.pos.motion = some (Claims.landed
              { Claims.timed m with brakeCount := m.brakeCount + 1, timedOut := true } x.stamp)
          ∧ .positionRequest .track (.drive 0) ∈ t.transit))

/-- A kick ends at its last crossing and the brake begins, the brake ends after P.JUMP_BRAKE_TIME and the landing begins, the
jump timer cuts either short, and each goes on until then (R66). That a brake ends by its count where the timer ends at the
same set is the model's choice (log 47). -/
def Obligations.JumpKicksBrakesAndLands : Prop :=
  Claims.JumpPhasesEnd ∧ Claims.JumpPhasesGoOnOrAreCut

/-- The catch counts its sets, closes the loop, locks or times out, and the settle counts its sets and ends (R49, R50, R67), with
a seek on its target or without a valid counter, or a JUMP that was in time (R71). -/
def Sys2Proof.Claims.LandingCatchesAndSettles : Prop :=
  ∀ (s : State) (x : SampleSet) (m : Motion), s.held = false → Claims.bright s.pos x → s.pos.state = .settling →
    s.pos.motion = some m → Claims.inTime s.pos m →
    (∀ p, m.phase = .landing → m.pull = some p → p.closed = true → s.pos.views.track = .closed →
      ¬ Claims.crosses s.pos x → x.te.natAbs < s.pos.params.teWindow → s.pos.params.lockRun ≤ satIncr p.lockRun →
      s.pos.params.settle ≠ 0 →
      ∃ t, exec (.catchLock x) s = .next t ∧ Claims.posSet s t ∧ .catchLock ∈ t.subs ∧ t.pos.state = .settling
        ∧ t.pos.work = s.pos.work
        ∧ t.pos.motion = some { Claims.timed m with phase := .settle, pull := none, settleCount := 0 }
        ∧ t.loop.track.lock = true)
    ∧ (∀ p, m.phase = .landing → m.pull = some p → Claims.pullLocks s.pos x p → s.pos.params.settle = 0 →
      m.isSeek = false → m.timedOut = false → m.corrections = 0 →
      ∃ t, exec (.catchLock x) s = .next t ∧ exec (.settleComplete x) s = .next t ∧ Claims.posSet s t ∧ .catchLock ∈ t.subs
        ∧ .settleComplete ∈ t.subs ∧ t.pos.state = .onTrack ∧ t.pos.work = none ∧ t.pos.motion = none
        ∧ t.loop.track.lock = true ∧ ∀ i ∈ Claims.ended s.pos s.pos.counter .ok none, i ∈ t.transit)
    ∧ (∀ p, m.phase = .landing → m.pull = some p → p.elapsed + 1 < 50 * s.pos.params.retrackTimeout →
      (¬ Claims.pullCloses s.pos x p → ¬ Claims.pullLocks s.pos x p →
        ∃ q, Claims.pullCounted s.pos x p q ∧ Claims.motionGoesOn s x { Claims.timed m with pull := some q })
      ∧ (Claims.pullCloses s.pos x p →
        ∃ t q, exec (.trackingClose x) s = .next t ∧ Claims.posSet s t ∧ .trackingClose ∈ t.subs
          ∧ t.pos.state = .settling ∧ t.pos.work = s.pos.work ∧ Claims.pullClosing s.pos x p q
          ∧ t.pos.motion = some { Claims.timed m with pull := some q } ∧ .positionRequest .track .close ∈ t.transit))
    ∧ (m.phase = .settle → m.settleCount + 1 < s.pos.params.settle →
      Claims.motionGoesOn s x { Claims.timed m with settleCount := m.settleCount + 1 })
    ∧ (∀ p, m.phase = .landing → m.pull = some p → 50 * s.pos.params.retrackTimeout ≤ p.elapsed + 1 →
      ¬ Claims.pullLocks s.pos x p →
      ∃ t, exec (.catchTimeout x) s = .next t ∧ Claims.posSet s t ∧ .catchTimeout ∈ t.subs ∧ t.pos.state = .focused
        ∧ t.pos.work = none ∧ t.pos.motion = none ∧ .positionRequest .track .off ∈ t.transit
        ∧ (m.isSeek = false → ∀ i ∈ Claims.ended s.pos t.pos.counter .timeout none, i ∈ t.transit)
        ∧ (m.isSeek = true → ∀ i ∈ Claims.ended s.pos t.pos.counter .seekFailed (some .failed), i ∈ t.transit)
        ∧ (m.isSeek = true → s.pos.hostWork = true → .condition .seekFailed ∈ t.transit))
    ∧ (m.phase = .settle → s.pos.params.settle ≤ m.settleCount + 1 → ¬ Claims.crosses s.pos x →
      (m.isSeek = true → s.pos.valid = true → m.seekTarget = s.pos.counter →
        ∃ t, exec (.settleComplete x) s = .next t ∧ Claims.posSet s t ∧ .settleComplete ∈ t.subs ∧ t.pos.state = .onTrack
          ∧ t.pos.work = none ∧ t.pos.motion = none ∧ t.pos.counter = s.pos.counter
          ∧ ∀ i ∈ Claims.ended s.pos s.pos.counter (if m.clamped then .okClamped else .ok) (some .done), i ∈ t.transit)
      ∧ (m.isSeek = true → s.pos.valid = false →
        ∃ t, exec (.settleComplete x) s = .next t ∧ Claims.posSet s t ∧ .settleComplete ∈ t.subs ∧ t.pos.state = .onTrack
          ∧ t.pos.work = none ∧ t.pos.motion = none
          ∧ (s.pos.hostWork = true → .condition .seekFailed ∈ t.transit)
          ∧ ∀ i ∈ Claims.ended s.pos s.pos.counter .seekFailed (some .failed), i ∈ t.transit)
      ∧ (m.isSeek = false → m.timedOut = false → m.corrections = 0 →
        ∃ t, exec (.settleComplete x) s = .next t ∧ Claims.posSet s t ∧ .settleComplete ∈ t.subs ∧ t.pos.state = .onTrack
          ∧ t.pos.work = none ∧ t.pos.motion = none
          ∧ ∀ i ∈ Claims.ended s.pos s.pos.counter .ok none, i ∈ t.transit))

namespace Sys2Proof.Claims

/-- The motion that settles at this set is compared with target g (R67, R71): a seek, or a JUMP that timed out or was
corrected. -/
def comparedWith (m : Motion) (g : Int) : Prop :=
  (m.isSeek = true ∧ g = m.seekTarget)
    ∨ (m.isSeek = false ∧ (m.timedOut = true ∨ m.corrections ≠ 0) ∧ m.jumpTarget = some g)

/-- The record of settling motion m, its settle counted, as a jump of n tracks toward g starts in it (R66, R71). -/
def corrected (m : Motion) (n g : Int) : Motion :=
  { timed m with
    phase := .kick, dir := if n < 0 then -1 else 1, jumpCount := n.natAbs, jumpTarget := some g, timedOut := false,
    jumpTimer := some 0, jumpSets := 50 * (2 + n.natAbs), pull := none, corrections := m.corrections + 1,
    settleCount := m.settleCount + 1 }

/-- SETTLE_COMPLETE is the set that gives t. -/
def settlesTo (s : State) (x : SampleSet) (t : State) : Prop :=
  exec (.settleComplete x) s = .next t ∧ posSet s t ∧ .settleComplete ∈ t.subs

/-- The motion has failed (R71): the spot stays where it landed, a host's command completes SEEK_FAILED with the condition, a
recovery seek reports FAILED. -/
def motionFailed (s t : State) : Prop :=
  t.pos.state = .onTrack ∧ t.pos.work = none ∧ t.pos.motion = none
    ∧ (s.pos.hostWork = true → .condition .seekFailed ∈ t.transit)
    ∧ ∀ i ∈ ended s.pos s.pos.counter .seekFailed (some .failed), i ∈ t.transit

end Sys2Proof.Claims

/-- The landing comparison of a seek, of a corrected JUMP and of a timed-out JUMP, case by case; a JUMP with no target ends
TIMEOUT (R67, R71). -/
def Sys2Proof.Claims.LandingComparison : Prop :=
  ∀ (s : State) (x : SampleSet) (m : Motion), s.held = false → Claims.bright s.pos x → s.pos.state = .settling →
    s.pos.motion = some m → Claims.inTime s.pos m → m.phase = .settle → s.pos.params.settle ≤ m.settleCount + 1 →
    ¬ Claims.crosses s.pos x →
    (m.isSeek = false → m.timedOut = true ∨ m.corrections ≠ 0 → m.jumpTarget = none →
      ∃ t, Claims.settlesTo s x t ∧ t.pos.state = .onTrack ∧ t.pos.work = none ∧ t.pos.motion = none
        ∧ ∀ i ∈ Claims.ended s.pos s.pos.counter .timeout none, i ∈ t.transit)
    ∧ (∀ g n, Claims.comparedWith m g → n = g - (s.pos.counter : Int) →
      (s.pos.valid = false → ∃ t, Claims.settlesTo s x t ∧ Claims.motionFailed s t)
      ∧ (s.pos.valid = true → n = 0 →
        ∃ t, Claims.settlesTo s x t ∧ t.pos.state = .onTrack ∧ t.pos.work = none ∧ t.pos.motion = none
          ∧ ∀ i ∈ Claims.ended s.pos s.pos.counter (if m.clamped then .okClamped else .ok) (some .done), i ∈ t.transit)
      ∧ (s.pos.valid = true → n ≠ 0 → n.natAbs ≤ 16 → m.corrections < 2 →
        ∃ t, Claims.settlesTo s x t ∧ t.pos.state = .jumping ∧ t.pos.work = s.pos.work
          ∧ t.pos.motion = some (Claims.corrected m n g)
          ∧ .positionRequest .track (.openWith ((if n < 0 then -1 else 1) * s.pos.params.kickDuty)) ∈ t.transit)
      ∧ (s.pos.valid = true → n ≠ 0 → n.natAbs ≤ 16 → 2 ≤ m.corrections →
        ∃ t, Claims.settlesTo s x t ∧ Claims.motionFailed s t)
      ∧ (s.pos.valid = true → 16 < n.natAbs → m.retargeted = false →
        ∃ t, Claims.settlesTo s x t ∧ Claims.motionFailed s t)
      ∧ (s.pos.valid = true → 16 < n.natAbs → m.retargeted = true → m.isSeek = true →
        ∃ t, Claims.settlesTo s x t ∧ t.pos.state = .seeking ∧ t.pos.work = s.pos.work
          ∧ t.pos.motion = some { Claims.timed m with
              phase := .run, dir := (if n < 0 then -1 else 1), retargeted := false, pull := none,
              settleCount := m.settleCount + 1 }
          ∧ .positionRequest .track (.openWith 0) ∈ t.transit ∧ .seekTargetSend (some m.seekTarget) ∈ t.transit
          ∧ .sledRequest (.driven ((if n < 0 then -1 else 1) * (s.loop.sled.params.seekDuty : Int))) ∈ t.transit))

/-- The catch counts its sets, closes the loop, locks or times out (R49, R50, R67), the settle counts its sets and ends (R67), and
the landing comparison ends the motion, corrects it, sends the sled on again or fails it (R71). A lock comes before a timeout at
the same set (R50). -/
def Obligations.LandingCatchesSettlesAndCompares : Prop :=
  Claims.LandingCatchesAndSettles ∧ Claims.LandingComparison

/-- The sled brake ends after S.BRAKE_TIME and the landing begins (R69); the seek timer ends a run with SEEK_FAILED (R70). -/
def Sys2Proof.Claims.SledBrakeEndsAndRunTimesOut : Prop :=
  ∀ (s : State) (x : SampleSet) (m : Motion), s.held = false → Claims.bright s.pos x → s.pos.motion = some m →
    (s.pos.state = .seekBrake → m.phase = .sledBrake → Claims.inTime s.pos m →
      s.loop.sled.params.brakeTime ≤ m.brakeCount + 1 →
      ∃ t, exec (.sledBrakeEnd x) s = .next t ∧ Claims.posSet s t ∧ .sledBrakeEnd ∈ t.subs ∧ t.pos.state = .settling
        ∧ t.pos.work = s.pos.work ∧ (t.pos.motion.map Motion.phase) = some .landing
        ∧ .sledRequest .toLoop ∈ t.transit ∧ .seekTargetSend none ∈ t.transit)
    ∧ (s.pos.state = .seeking → m.phase = .run → m.isSeek = true → 50 * s.pos.params.seekTimeout ≤ m.seekTimer + 1 →
      ¬ Claims.crosses s.pos x →
      ∃ t, exec (.seekTimeout x) s = .next t ∧ Claims.posSet s t ∧ .seekTimeout ∈ t.subs ∧ t.pos.state = .focused
        ∧ t.pos.work = none ∧ t.pos.motion = none
        ∧ .positionRequest .track .off ∈ t.transit ∧ .sledRequest .toLoop ∈ t.transit ∧ .seekTargetSend none ∈ t.transit
        ∧ (s.pos.hostWork = true → .condition .seekFailed ∈ t.transit)
        ∧ ∀ i ∈ Claims.ended s.pos s.pos.counter .seekFailed (some .failed), i ∈ t.transit)

namespace Sys2Proof.Claims

/-- The remaining distance of a run after the counter has taken its step (R69). -/
def remainingAfter (b : Pos) (x : SampleSet) (m : Motion) : Int :=
  m.dir * ((m.seekTarget : Int) - steppedTo b.counter (dirOf b x))

/-- The phase's own rules end nothing at this set (R66, R67, R69). -/
def phaseGoesOn (s : State) (m : Motion) : Prop :=
  match m.phase with
  | .kick => ∃ n, m.jumpTimer = some n ∧ n + 1 < m.jumpSets
  | .brake => m.brakeCount + 1 < s.pos.params.jumpBrakeTime ∧ ∃ n, m.jumpTimer = some n ∧ n + 1 < m.jumpSets
  | .run => True
  | .sledBrake => m.brakeCount + 1 < s.loop.sled.params.brakeTime
  | .landing => ∃ p, m.pull = some p ∧ p.closed = false ∧ satIncr p.quiet < s.pos.params.pullinInterval
      ∧ p.elapsed + 1 < 50 * s.pos.params.retrackTimeout
  | .settle => m.settleCount + 1 < s.pos.params.settle

/-- The position state of a phase (Table 4-1). -/
def stateOfPhase (p : Phase) : PositionState :=
  match p with
  | .kick => .jumping
  | .brake => .jumping
  | .run => .seeking
  | .sledBrake => .seekBrake
  | .landing => .settling
  | .settle => .settling

end Sys2Proof.Claims

/-- A crossing in RUN at or below P.BRAKE_DIST begins the sled brake, with S.BRAKE_TIME = 0 the landing; else the run goes on, as
does a brake before its time (R69). -/
def Sys2Proof.Claims.RunBrakesAtDistance : Prop :=
  ∀ (s : State) (x : SampleSet) (m : Motion), s.held = false → Claims.bright s.pos x → s.pos.motion = some m →
    Claims.inTime s.pos m →
    (s.pos.state = .seeking → m.phase = .run →
      (Claims.crosses s.pos x → Claims.remainingAfter s.pos x m ≤ s.pos.params.brakeDist → s.loop.sled.params.brakeTime ≠ 0 →
        ∃ t, exec (.positionSet x) s = .next t ∧ Claims.posSet s t ∧ t.pos.state = .seekBrake ∧ t.pos.work = s.pos.work
          ∧ t.pos.motion = some { Claims.timed m with phase := .sledBrake, brakeCount := 0 }
          ∧ .sledRequest (.driven (-(m.dir * s.loop.sled.params.brakeDuty))) ∈ t.transit)
      ∧ (Claims.crosses s.pos x → Claims.remainingAfter s.pos x m ≤ s.pos.params.brakeDist → s.loop.sled.params.brakeTime = 0 →
        ∃ t, exec (.sledBrakeEnd x) s = .next t ∧ Claims.posSet s t ∧ .sledBrakeEnd ∈ t.subs ∧ t.pos.state = .settling
          ∧ t.pos.work = s.pos.work ∧ t.pos.motion = some (Claims.landed { Claims.timed m with brakeCount := 0 } x.stamp)
          ∧ .sledRequest .toLoop ∈ t.transit ∧ .seekTargetSend none ∈ t.transit)
      ∧ (¬ Claims.crosses s.pos x ∨ s.pos.params.brakeDist < Claims.remainingAfter s.pos x m →
        Claims.motionGoesOn s x (Claims.timed m)))
    ∧ (s.pos.state = .seekBrake → m.phase = .sledBrake → m.brakeCount + 1 < s.loop.sled.params.brakeTime →
      Claims.motionGoesOn s x { Claims.timed m with brakeCount := m.brakeCount + 1 })

/-- The seek timer ends a seek in every phase whose own rules end nothing at the set: in SETTLE the spot stays on its track, in
any other phase the tracking loop is opened and the sled released (R70). -/
def Sys2Proof.Claims.SeekTimerEndsEveryPhase : Prop :=
  ∀ (s : State) (x : SampleSet) (m : Motion), s.held = false → Claims.bright s.pos x → s.pos.motion = some m →
    m.isSeek = true → s.pos.state = Claims.stateOfPhase m.phase → 50 * s.pos.params.seekTimeout ≤ m.seekTimer + 1 →
    ¬ Claims.crosses s.pos x → Claims.phaseGoesOn s m →
    ∃ t, exec (.seekTimeout x) s = .next t ∧ Claims.posSet s t ∧ .seekTimeout ∈ t.subs
      ∧ t.pos.work = none ∧ t.pos.motion = none
      ∧ (m.phase = .settle → t.pos.state = .onTrack)
      ∧ (m.phase ≠ .settle → t.pos.state = .focused ∧ .positionRequest .track .off ∈ t.transit)
      ∧ (m.phase = .run ∨ m.phase = .sledBrake → .sledRequest .toLoop ∈ t.transit ∧ .seekTargetSend none ∈ t.transit)
      ∧ (s.pos.hostWork = true → .condition .seekFailed ∈ t.transit)
      ∧ ∀ i ∈ Claims.ended s.pos s.pos.counter .seekFailed (some .failed), i ∈ t.transit

/-- A run brakes at P.BRAKE_DIST and the brake ends after S.BRAKE_TIME (R69); the seek timer ends a seek in each of its phases
(R70). -/
def Obligations.SledBrakeEndsAndSeekTimesOut : Prop :=
  Claims.SledBrakeEndsAndRunTimesOut ∧ Claims.RunBrakesAtDistance ∧ Claims.SeekTimerEndsEveryPhase

/-! ## Position Controller: park, reports and requests -/

namespace Sys2Proof.Claims

/-- The state after command c, whose row is i, is refused at its offer (R183). -/
def refusedNow (s : State) (i : Instr) (c : Posted) (r : Result) (v : Word) : State :=
  ((sent s i [] [] s).completeNow c r v).retire c

/-- The state after command c, whose row is i, is deferred at its offer (R183). -/
def deferredNow (s : State) (i : Instr) (c : Posted) : State := (sent s i [] [] s).answered c .deferred

/-- The state after command c, whose row is i, is taken and completes OK with nothing else to do. -/
def noted (s : State) (i : Instr) (c : Posted) (v : Word) : State :=
  (sent s i [.positionCommandTakenNotice, doneOf c .ok v] [] s).retire c

/-- The origin of command c (R39). -/
def byHost (c : Posted) : Origin := .command c.tag c.code

/-- The counter as a completion value. -/
def counterWord (b : Pos) : Word := BitVec.ofNat 16 b.counter

/-- What the work in flight sends when it is ended before its time (R39). -/
def cutShort (b : Pos) : List Instr := ended b b.counter .interrupted none

/-- The block of u has no work, search, pull-in, park or motion in flight. -/
def restful (b : Pos) : Prop :=
  b.work = none ∧ b.search = none ∧ b.pull = none ∧ b.parkTimer = none ∧ b.motion = none

/-- A park has begun for `origin` (R55): the loops go to OFF, the laser off, the sled runs inward. -/
def parkBegun (s u : State) (origin : Origin) : Prop :=
  u.pos.state = .parking ∧ u.pos.work = some { kind := .park, origin := origin } ∧ u.pos.parkTimer = some 0
    ∧ u.pos.search = none ∧ u.pos.pull = none ∧ u.pos.motion = none
    ∧ .positionRequest .focus .off ∈ u.transit ∧ .positionRequest .track .off ∈ u.transit
    ∧ .laserRequest false ∈ u.transit ∧ .sledRequest (.driven (-(s.loop.sled.params.seekDuty : Int))) ∈ u.transit
    ∧ (∀ i ∈ cutShort s.pos, i ∈ u.transit) ∧ (s.pos.inRun = true → .seekTargetSend none ∈ u.transit)

end Sys2Proof.Claims

/-- A park begins at PARK or at the Loading Controller's request, ends OK when SLED_HOME is asserted and TIMEOUT after 2000 ms
(R55). That a PARK refused BUSY has the value 0 is the model's choice (log 29). -/
def Obligations.ParkBeginsEndsHomeOrTimesOut : Prop :=
  ∀ s : State, s.held = false →
    (∀ x, s.pos.state = .parking → s.pins.sledHome = true →
      ∃ t, exec (.positionSet x) s = .next t ∧ Claims.posSet s t ∧ t.pos.state = .idle ∧ t.pos.work = none
        ∧ t.pos.parkTimer = none ∧ .sledRequest .toLoop ∈ t.transit
        ∧ ∀ i ∈ Claims.ended s.pos t.pos.counter .ok none, i ∈ t.transit)
    ∧ (∀ x, s.pos.state = .parking → s.pins.sledHome = false → 100000 ≤ s.pos.parkTimer.getD 0 + 1 →
      ∃ t, exec (.parkTimeout x) s = .next t ∧ Claims.posSet s t ∧ .parkTimeout ∈ t.subs ∧ t.pos.state = .idle
        ∧ t.pos.work = none ∧ t.pos.parkTimer = none ∧ .sledRequest .toLoop ∈ t.transit
        ∧ ∀ i ∈ Claims.ended s.pos t.pos.counter .timeout none, i ∈ t.transit)
    ∧ (∀ x n, s.pos.state = .parking → s.pins.sledHome = false → s.pos.parkTimer = some n → n + 1 < 100000 →
      ∃ t, exec (.positionSet x) s = .next t ∧ Claims.posSet s t ∧ t.pos.state = .parking ∧ t.pos.work = s.pos.work
        ∧ t.pos.parkTimer = some (n + 1))
    ∧ (∀ c, s.pos.views.recovery = .active → exec (.park c) s = .next (Claims.deferredNow s (.park c) c))
    ∧ (∀ c, s.pos.views.recovery ≠ .active → s.pos.state = .parking → s.pos.hostWork = true →
      exec (.park c) s = .next (Claims.refusedNow s (.park c) c .busy 0))
    ∧ (∀ c, s.pos.views.recovery ≠ .active → s.pos.state = .parking → s.pos.hostWork = false →
      exec (.park c) s = .next ((Claims.sent s (.park c) [.positionCommandTakenNotice] []
        { s with pos := { s.pos with work := some { kind := .park, origin := Claims.byHost c } } }).retire c))
    ∧ (∀ c, s.pos.views.recovery ≠ .active → s.pos.state ≠ .parking →
      ∃ u, exec (.park c) s = .next (u.retire c) ∧ Claims.onlyPos s u ∧ Claims.parkBegun s u (Claims.byHost c)
        ∧ .positionCommandTakenNotice ∈ u.transit)
    ∧ (s.pos.state = .parking → exec .loadingParkRequest s = .next (Claims.sent s .loadingParkRequest [] [] s))
    ∧ (s.pos.state ≠ .parking →
      ∃ u, exec .loadingParkRequest s = .next u ∧ Claims.onlyPos s u ∧ Claims.parkBegun s u .loading)

namespace Sys2Proof.Claims

/-- The views after a neighbour's report (R40). -/
def viewsAfter (v : PosViews) (rep : NeighbourReport) : PosViews :=
  match rep with
  | .holdSource h => { v with held := h }
  | .loading st => { v with loading := st }
  | .spindle st => { v with spindle := st }
  | .laser on => { v with laser := on }
  | .calibration r => { v with calibrating := r }
  | .recovery st => { v with recovery := st }

/-- Work in flight is dropped with the loss of a loop (R47): its records go, a driven sled returns to LOOP. -/
def dropped (s t : State) (st : PositionState) : Prop :=
  t.pos.state = st ∧ restful t.pos ∧ (∀ i ∈ cutShort s.pos, i ∈ t.transit)
    ∧ (s.pos.inRun = true → .sledRequest .toLoop ∈ t.transit ∧ .seekTargetSend none ∈ t.transit)

/-- The position states that the loss of tracking alone does not end with the focus states (R47). -/
def usesTrack (b : Pos) : Prop :=
  b.state = .trackPullin ∨ b.state = .onTrack ∨ b.state = .jumping ∨ b.state = .seeking ∨ b.state = .seekBrake
    ∨ b.state = .settling

/-- The position state requires the tracking loop OPEN, CLOSED or HOLD (R47, Table 3-1, Table 4-1). -/
def needsTrack (b : Pos) : Prop :=
  b.state = .onTrack ∨ b.state = .jumping ∨ b.state = .seeking ∨ b.state = .seekBrake ∨ b.state = .settling
    ∨ b.state = .trackPullin ∧ ∃ p, b.pull = some p ∧ p.closed = true

/-- A tracking loop that had closed is reported OPEN in SETTLE (R67). -/
def settleLost (b : Pos) (st : LoopState) : Prop :=
  st = .opened ∧ (b.views.track = .closed ∨ b.views.track = .hold) ∧ ∃ m, b.motion = some m ∧ m.phase = .settle

/-- The tracking loop alone is lost, or the focus loop with it (R47): the work goes, and the state is FOCUSED or IDLE. -/
def trackLost (s t : State) : Prop :=
  onlyPos s t ∧ (s.pos.views.focus ≠ .off → dropped s t .focused) ∧ (s.pos.views.focus = .off → dropped s t .idle)

end Sys2Proof.Claims

/-- The Position Controller's views follow its neighbours' reports (R40, R64); a revolution marker moves the counter outward
while the spot follows the track (R61); an unload and an unfocused disc clear its valid flag (R62); a loop that goes OFF
unasked, and a tracking loop that opens in SETTLE, drop the work (R47, R67). How an OFF that was asked for is told apart, and
that the tracking-OFF notice drops the work at any time, is the model's reading (logs 15, 17). -/
def Obligations.PositionTakesReports : Prop :=
  ∀ s : State, s.held = false →
    (∀ rep, exec (.neighbourReport rep) s = .next (Claims.sent s (.neighbourReport rep) [] []
      { s with pos := { s.pos with views := Claims.viewsAfter s.pos.views rep } }))
    ∧ (∀ w, exec (.referenceWaitReport w) s = .next (Claims.sent s (.referenceWaitReport w) [] []
      { s with pos := { s.pos with views := { s.pos.views with refWait := w } } }))
    ∧ (s.pos.views.track = .closed ∨ s.pos.views.track = .hold →
      exec .revolutionMarkerPosition s = .next (Claims.sent s .revolutionMarkerPosition
        (Claims.counterReports s.pos (Claims.steppedTo s.pos.counter 1) (Claims.steppedValid s.pos.counter s.pos.valid 1)) []
        { s with pos := { s.pos with
            counter := Claims.steppedTo s.pos.counter 1, valid := Claims.steppedValid s.pos.counter s.pos.valid 1 } }))
    ∧ (s.pos.views.track = .off ∨ s.pos.views.track = .opened →
      exec .revolutionMarkerPosition s = .next (Claims.sent s .revolutionMarkerPosition [] [] s))
    ∧ exec .unloadNoticePosition s = .next (Claims.sent s .unloadNoticePosition
        (Claims.counterReports s.pos s.pos.counter false) [] { s with pos := { s.pos with valid := false } })
    ∧ exec (.loopStateReport .focusOut) s = .next (Claims.sent s (.loopStateReport .focusOut)
        (Claims.counterReports s.pos s.pos.counter false) [] { s with pos := { s.pos with valid := false } })
    ∧ exec (.loopStateReport .focusIn) s = .next (Claims.sent s (.loopStateReport .focusIn) [] [] s)
    ∧ (∀ st asked, st ≠ .off ∨ asked = true ∨ s.pos.state = .idle ∨ s.pos.state = .parking →
      exec (.loopStateReport (.state .focus st asked)) s = .next (Claims.sent s (.loopStateReport (.state .focus st asked))
        [] [] { s with pos := { s.pos with views := { s.pos.views with focus := st } } }))
    ∧ (s.pos.state ≠ .idle → s.pos.state ≠ .parking →
      ∃ t, exec (.loopStateReport (.state .focus .off false)) s = .next t ∧ Claims.onlyPos s t ∧ t.pos.views.focus = .off
        ∧ Claims.dropped s t .idle)
    ∧ (∀ st asked, st ≠ .off ∨ asked = true ∨ ¬ Claims.needsTrack s.pos → ¬ Claims.settleLost s.pos st →
      exec (.loopStateReport (.state .track st asked)) s = .next (Claims.sent s (.loopStateReport (.state .track st asked))
        [] [] { s with pos := { s.pos with views := { s.pos.views with track := st } } }))
    ∧ (Claims.needsTrack s.pos →
      ∃ t, exec (.loopStateReport (.state .track .off false)) s = .next t ∧ t.pos.views.track = .off
        ∧ Claims.trackLost s t)
    ∧ (∀ asked, s.pos.state = .settling → Claims.settleLost s.pos .opened →
      ∃ t, exec (.loopStateReport (.state .track .opened asked)) s = .next t ∧ t.pos.views.track = .opened
        ∧ Claims.trackLost s t)
    ∧ (Claims.usesTrack s.pos → s.pos.views.focus ≠ .off →
      ∃ t, exec .trackingOffNotice s = .next t ∧ Claims.onlyPos s t ∧ Claims.dropped s t .focused)
    ∧ (Claims.usesTrack s.pos → s.pos.views.focus = .off →
      ∃ t, exec .trackingOffNotice s = .next t ∧ Claims.onlyPos s t ∧ Claims.dropped s t .idle)

namespace Sys2Proof.Claims

/-- A focus search has begun for `origin` (R42). -/
def searchBegun (s u : State) (origin : Origin) : Prop :=
  u.pos.state = .focusSearch ∧ u.pos.work = some { kind := .focusSearch, origin := origin }
    ∧ u.pos.search = some { drive := 0, up := false, sweeps := 0 } ∧ u.pos.prevFe = none
    ∧ u.pos.pull = none ∧ u.pos.motion = none ∧ u.pos.parkTimer = none
    ∧ .positionRequest .focus (.openWith 0) ∈ u.transit ∧ (s.pos.views.laser = false → .laserRequest true ∈ u.transit)

/-- A pull-in has begun for `origin` (R48). -/
def pullInBegun (s u : State) (origin : Origin) : Prop :=
  u.pos.state = .trackPullin ∧ u.pos.work = some { kind := .trackPullIn, origin := origin }
    ∧ u.pos.pull = some { quiet := 0, lastCross := s.pos.lastStamp, lockRun := 0, elapsed := 0, closed := false }
    ∧ (s.pos.views.track ≠ .off → .positionRequest .track .off ∈ u.transit)

/-- All is released (R52, R57): the work is cut short, both loops go to OFF. -/
def released (s u : State) : Prop :=
  u.pos.state = .idle ∧ restful u.pos ∧ .positionRequest .focus .off ∈ u.transit
    ∧ .positionRequest .track .off ∈ u.transit ∧ (∀ i ∈ cutShort s.pos, i ∈ u.transit)
    ∧ (s.pos.inRun = true → .sledRequest .toLoop ∈ u.transit ∧ .seekTargetSend none ∈ u.transit)

/-- A focus search is ended (R56, R57). -/
def searchEnded (s u : State) : Prop :=
  u.pos.state = .idle ∧ u.pos.work = none ∧ u.pos.search = none ∧ .positionRequest .focus .off ∈ u.transit
    ∧ ∀ i ∈ cutShort s.pos, i ∈ u.transit

/-- A motion is ended early (R73): its work is cut short, and the spot is pulled in where it lands, unless it has settled. -/
def motionEnded (s u : State) (m : Motion) : Prop :=
  u.pos.motion = none ∧ (∀ i ∈ cutShort s.pos, i ∈ u.transit)
    ∧ (m.phase = .settle → u.pos.state = .onTrack ∧ u.pos.work = none)
    ∧ (m.phase ≠ .settle → u.pos.state = .trackPullin ∧ u.pos.work = some { kind := .trackPullIn, origin := .none })
    ∧ (m.phase = .landing → u.pos.pull = m.pull)
    ∧ (m.phase ≠ .settle → m.phase ≠ .landing → .positionRequest .track (.drive 0) ∈ u.transit)
    ∧ (m.phase.driven = true → .sledRequest .toLoop ∈ u.transit ∧ .seekTargetSend none ∈ u.transit)

/-- The spindle turns fast enough for a pull-in (R53). -/
def turning (b : Pos) : Prop := b.views.spindle = .slewing ∨ b.views.spindle = .regulating

/-- A seek with target t from the counter of s has begun (R68): a jump at distance 16 or less, else a sled run. -/
def seekBegun (s u : State) (t : Nat) : Prop :=
  (((t : Int) - s.pos.counter).natAbs ≤ 16 → u.pos.state = .jumping
    ∧ (u.pos.motion.map Motion.phase) = some .kick
    ∧ (u.pos.motion.map Motion.jumpCount) = some ((t : Int) - s.pos.counter).natAbs
    ∧ (u.pos.motion.map Motion.jumpTarget) = some (some (t : Int))
    ∧ .positionRequest .track (.openWith (signOf ((t : Int) - s.pos.counter) * s.pos.params.kickDuty)) ∈ u.transit)
  ∧ (16 < ((t : Int) - s.pos.counter).natAbs → u.pos.state = .seeking
    ∧ (u.pos.motion.map Motion.phase) = some .run
    ∧ (u.pos.motion.map Motion.dir) = some (signOf ((t : Int) - s.pos.counter))
    ∧ .positionRequest .track (.openWith 0) ∈ u.transit ∧ .seekTargetSend (some t) ∈ u.transit
    ∧ .sledRequest (.driven (signOf ((t : Int) - s.pos.counter) * s.loop.sled.params.seekDuty)) ∈ u.transit)
  ∧ (u.pos.motion.map Motion.isSeek) = some true ∧ (u.pos.motion.map Motion.seekTarget) = some t

end Sys2Proof.Claims

/-- The Recovery Controller's requests: abort, search, pull-in, release and seek (R57, R73, R74). That the first of two seeks
ends as a motion ends early where the second has no way to go (log 18), and that a seek taken between an apply of group 6 and the
next set uses the new P.TRACK_MAX and P.KICK_DUTY (log 59), is the model's choice. -/
def Obligations.RecoveryRequestsMoveThePosition : Prop :=
  ∀ s : State, s.held = false →
    (s.pos.state = .focusSearch ∨ s.pos.state = .focusLocking →
      ∃ t, exec .recoveryAbort s = .next t ∧ Claims.onlyPos s t ∧ Claims.searchEnded s t)
    ∧ (s.pos.state = .trackPullin →
      ∃ t, exec .recoveryAbort s = .next t ∧ Claims.onlyPos s t ∧ t.pos.state = .focused ∧ t.pos.work = none
        ∧ t.pos.pull = none ∧ .positionRequest .track .off ∈ t.transit ∧ ∀ i ∈ Claims.cutShort s.pos, i ∈ t.transit)
    ∧ (∀ m, s.pos.state = .jumping ∨ s.pos.state = .seeking ∨ s.pos.state = .seekBrake ∨ s.pos.state = .settling →
      s.pos.motion = some m →
      ∃ t, exec .recoveryAbort s = .next t ∧ Claims.onlyPos s t ∧ Claims.motionEnded s t m)
    ∧ (s.pos.state = .parking →
      ∃ t, exec .recoveryAbort s = .next t ∧ Claims.onlyPos s t ∧ t.pos.state = .idle ∧ t.pos.work = none
        ∧ t.pos.parkTimer = none ∧ .sledRequest .toLoop ∈ t.transit ∧ ∀ i ∈ Claims.cutShort s.pos, i ∈ t.transit)
    ∧ (s.pos.state = .idle ∨ s.pos.state = .focused ∨ s.pos.state = .onTrack → s.pos.motion = none →
      exec .recoveryAbort s = .next (Claims.sent s .recoveryAbort [] [] s))
    ∧ (∀ n, ∃ t, exec (.recoverySearch n) s = .next t ∧ Claims.onlyPos s t ∧ Claims.searchBegun s t (.recovery n)
      ∧ ∀ i ∈ Claims.cutShort s.pos, i ∈ t.transit)
    ∧ (∀ n, s.pos.state = .onTrack →
      exec (.recoveryPullIn n) s = .next (Claims.sent s (.recoveryPullIn n) [.stepReport n .done] [] s))
    ∧ (∀ n, s.pos.state = .focused → Claims.turning s.pos →
      ∃ t, exec (.recoveryPullIn n) s = .next t ∧ Claims.onlyPos s t ∧ Claims.pullInBegun s t (.recovery n))
    ∧ (∀ n, s.pos.state ≠ .onTrack → (s.pos.state = .focused → ¬ Claims.turning s.pos) →
      exec (.recoveryPullIn n) s = .next (Claims.sent s (.recoveryPullIn n) [.stepReport n .failed] [] s))
    ∧ (s.pos.state = .idle → exec .recoveryRelease s = .next (Claims.sent s .recoveryRelease [] [] s))
    ∧ (s.pos.state ≠ .idle →
      ∃ t, exec .recoveryRelease s = .next t ∧ Claims.onlyPos s t ∧ Claims.released s t)
    ∧ (∀ n target, s.pos.valid = false →
      exec (.recoverySeek n target) s = .next (Claims.sent s (.recoverySeek n target) [.stepReport n .failed] [] s))
    ∧ (∀ n target t, t = min target s.pos.params.trackMax → s.pos.valid = true → s.pos.state = .onTrack →
      (t = s.pos.counter →
        ∃ u, exec (.recoverySeek n target) s = .next u ∧ Claims.onlyPos s u ∧ u.pos.state = .onTrack
          ∧ .stepReport n .done ∈ u.transit)
      ∧ (t ≠ s.pos.counter →
        ∃ u, exec (.recoverySeek n target) s = .next u ∧ Claims.onlyPos s u ∧ Claims.seekBegun s u t
          ∧ u.pos.work = some { kind := .seek, origin := .recovery n }))
    ∧ (∀ n target k m t, t = min target s.pos.params.trackMax → s.pos.valid = true → s.pos.state ≠ .onTrack →
      s.pos.work = some { kind := .seek, origin := .recovery k } → s.pos.motion = some m → m.isSeek = true →
      (t ≠ s.pos.counter →
        ∃ u, exec (.recoverySeek n target) s = .next u ∧ Claims.onlyPos s u ∧ Claims.seekBegun s u t
          ∧ u.pos.work = some { kind := .seek, origin := .recovery n }
          ∧ (u.pos.motion.map Motion.seekTimer) = some 0 ∧ (u.pos.motion.map Motion.corrections) = some 0
          ∧ (s.pos.inRun = true → .sledRequest .toLoop ∈ u.transit ∧ .seekTargetSend none ∈ u.transit)
          ∧ ∀ j o, .stepReport j o ∈ u.transit → .stepReport j o ∈ s.transit)
      ∧ (t = s.pos.counter →
        ∃ u, exec (.recoverySeek n target) s = .next u ∧ Claims.onlyPos s u ∧ Claims.motionEnded s u m
          ∧ .stepReport n .done ∈ u.transit
          ∧ ∀ j o, j ≠ n → .stepReport j o ∈ u.transit → .stepReport j o ∈ s.transit))
    ∧ (∀ n target, s.pos.state ≠ .onTrack →
      s.pos.motion = none ∨ (∀ kind k, s.pos.work ≠ some { kind := kind, origin := .recovery k }) →
      exec (.recoverySeek n target) s = .next (Claims.sent s (.recoverySeek n target) [.stepReport n .failed] [] s))

/-! ## Position Controller: commands -/

/-- FOCUS ON and FOCUS OFF, in every state (R41, R51, R52). The value of a refused FOCUS ON is free (log 8). -/
def Obligations.FocusCommandsSearchAndRelease : Prop :=
  ∀ (s : State) (c : Posted), s.held = false →
    ∀ f, f = { s with freeCount := s.freeCount + 1 } →
    (s.pos.views.recovery = .active →
      exec (.focusOn c) s = .next (Claims.deferredNow f (.focusOn c) c)
        ∧ exec (.focusOff c) s = .next (Claims.deferredNow s (.focusOff c) c))
    ∧ (s.pos.views.recovery ≠ .active →
      (s.pos.views.loading ≠ .loaded →
        ∃ v, exec (.focusOn c) s = .next (Claims.refusedNow f (.focusOn c) c .noDisc v))
      ∧ (s.pos.views.loading = .loaded →
        s.pos.state = .focusSearch ∨ s.pos.state = .focusLocking ∨ s.pos.state = .parking
          ∨ (s.pos.state = .idle ∧ s.pos.views.calibrating = true) →
        ∃ v, exec (.focusOn c) s = .next (Claims.refusedNow f (.focusOn c) c .busy v))
      ∧ (s.pos.views.loading = .loaded → s.pos.state = .idle → s.pos.views.calibrating = false →
        ∃ u, exec (.focusOn c) s = .next (u.retire c) ∧ Claims.onlyPos f u ∧ Claims.searchBegun s u (Claims.byHost c)
          ∧ .positionCommandTakenNotice ∈ u.transit)
      ∧ (s.pos.views.loading = .loaded → s.pos.state = .focused ∨ Claims.usesTrack s.pos →
        exec (.focusOn c) s = .next (Claims.noted f (.focusOn c) c 0))
      ∧ (s.pos.state = .idle → exec (.focusOff c) s = .next (Claims.noted s (.focusOff c) c 0))
      ∧ (s.pos.state ≠ .idle →
        ∃ u, exec (.focusOff c) s = .next (u.retire c) ∧ Claims.onlyPos s u ∧ Claims.released s u
          ∧ .positionCommandTakenNotice ∈ u.transit ∧ Claims.doneOf c .ok 0 ∈ u.transit))

/-- TRACK ON and TRACK OFF, in every state (R41, R53, R54, R73). -/
def Obligations.TrackCommandsPullInAndOpen : Prop :=
  ∀ (s : State) (c : Posted), s.held = false →
    (s.pos.views.recovery = .active →
      exec (.trackOn c) s = .next (Claims.deferredNow s (.trackOn c) c)
        ∧ exec (.trackOff c) s = .next (Claims.deferredNow s (.trackOff c) c))
    ∧ (s.pos.views.recovery ≠ .active →
      (s.pos.views.loading ≠ .loaded →
        exec (.trackOn c) s = .next (Claims.refusedNow s (.trackOn c) c .noDisc (Claims.counterWord s.pos)))
      ∧ (s.pos.views.loading = .loaded →
        (s.pos.state = .focused → Claims.turning s.pos →
          ∃ u, exec (.trackOn c) s = .next (u.retire c) ∧ Claims.onlyPos s u ∧ Claims.pullInBegun s u (Claims.byHost c)
            ∧ .positionCommandTakenNotice ∈ u.transit)
        ∧ (s.pos.state = .idle ∨ s.pos.state = .focusSearch ∨ s.pos.state = .focusLocking ∨ s.pos.state = .parking
            ∨ (s.pos.state = .focused ∧ ¬ Claims.turning s.pos) →
          exec (.trackOn c) s = .next (Claims.refusedNow s (.trackOn c) c .notReady (Claims.counterWord s.pos)))
        ∧ (s.pos.state = .onTrack → exec (.trackOn c) s = .next (Claims.noted s (.trackOn c) c (Claims.counterWord s.pos)))
        ∧ (s.pos.state = .trackPullin ∨ s.pos.state = .jumping ∨ s.pos.state = .seeking ∨ s.pos.state = .seekBrake
            ∨ s.pos.state = .settling →
          exec (.trackOn c) s = .next (Claims.refusedNow s (.trackOn c) c .busy (Claims.counterWord s.pos))))
      ∧ (¬ Claims.usesTrack s.pos → exec (.trackOff c) s = .next (Claims.noted s (.trackOff c) c (Claims.counterWord s.pos)))
      ∧ (Claims.usesTrack s.pos →
        ∃ u, exec (.trackOff c) s = .next (u.retire c) ∧ Claims.onlyPos s u ∧ u.pos.state = .focused
          ∧ (s.pos.state ≠ .onTrack → u.pos.work = none ∧ u.pos.pull = none ∧ ∀ i ∈ Claims.cutShort s.pos, i ∈ u.transit)
          ∧ (s.pos.state ≠ .onTrack → s.pos.state ≠ .trackPullin → Claims.restful u.pos
              ∧ (s.pos.inRun = true → .sledRequest .toLoop ∈ u.transit ∧ .seekTargetSend none ∈ u.transit))
          ∧ .positionRequest .track .off ∈ u.transit ∧ .positionCommandTakenNotice ∈ u.transit
          ∧ Claims.doneOf c .ok (Claims.counterWord s.pos) ∈ u.transit))

/-- JUMP and SEEK as offered (R41, R65, R66, R68), and a SEEK in place of another (R72). That one taken between an apply of group 6
and the next set uses the new P.KICK_DUTY and P.TRACK_MAX is the model's choice (log 59). -/
def Sys2Proof.Claims.JumpAndSeekAreAnswered : Prop :=
  ∀ (s : State) (c : Posted), s.held = false →
    ∀ (n : Int) (asked t : Nat), n = c.w1.toInt → asked = 65536 * c.w1.toNat + c.w2.toNat →
      t = min asked s.pos.params.trackMax →
    (s.pos.views.recovery = .active →
      exec (.jump c) s = .next (Claims.deferredNow s (.jump c) c)
        ∧ exec (.seek c) s = .next (Claims.deferredNow s (.seek c) c))
    ∧ (s.pos.views.recovery ≠ .active →
      (16 < n.natAbs →
        exec (.jump c) s = .next (Claims.refusedNow s (.jump c) c .badArgument (Claims.counterWord s.pos)))
      ∧ (n = 0 → exec (.jump c) s = .next (Claims.noted s (.jump c) c (Claims.counterWord s.pos)))
      ∧ (n ≠ 0 → n.natAbs ≤ 16 →
        (s.pos.motion.isSome = true → exec (.jump c) s = .next (Claims.deferredNow s (.jump c) c))
        ∧ (s.pos.motion = none → s.pos.state ≠ .onTrack →
          exec (.jump c) s = .next (Claims.refusedNow s (.jump c) c .notReady (Claims.counterWord s.pos)))
        ∧ (s.pos.motion = none → s.pos.state = .onTrack →
          ∃ u, exec (.jump c) s = .next (u.retire c) ∧ Claims.onlyPos s u ∧ u.pos.state = .jumping
            ∧ u.pos.work = some { kind := .jump, origin := Claims.byHost c }
            ∧ u.pos.motion = some {
                isSeek := false, phase := .kick, dir := signOf n, jumpCount := n.natAbs,
                jumpTarget := if s.pos.valid then some (s.pos.counter + n) else none, seekTarget := 0, clamped := false,
                corrections := 0, retargeted := false, timedOut := false, jumpTimer := some 0,
                jumpSets := 50 * (2 + n.natAbs), seekTimer := 0, brakeCount := 0, pull := none, settleCount := 0 }
            ∧ .positionRequest .track (.openWith (signOf n * s.pos.params.kickDuty)) ∈ u.transit
            ∧ .positionCommandTakenNotice ∈ u.transit))
      ∧ (s.pos.motion = none → s.pos.state ≠ .onTrack ∨ s.pos.valid = false →
        exec (.seek c) s = .next (Claims.refusedNow s (.seek c) c .notReady (Claims.counterWord s.pos)))
      ∧ (s.pos.motion = none → s.pos.state = .onTrack → s.pos.valid = true →
        (t ≠ s.pos.counter →
          ∃ u, exec (.seek c) s = .next (u.retire c) ∧ Claims.onlyPos s u ∧ Claims.seekBegun s u t
            ∧ (u.pos.motion.map Motion.clamped) = some (decide (t ≠ asked))
            ∧ u.pos.work = some { kind := .seek, origin := Claims.byHost c } ∧ .positionCommandTakenNotice ∈ u.transit)
        ∧ (t = s.pos.counter →
          exec (.seek c) s = .next ((Claims.sent s (.seek c)
            [.positionCommandTakenNotice,
             Claims.doneOf c (if t = asked then .ok else .okClamped) (Claims.counterWord s.pos)] [] s).retire c)))
      ∧ (∀ m, s.pos.motion = some m → m.isSeek = true → s.pos.hostWork = true → s.pos.state ≠ .jumping →
        ∃ u, exec (.seek c) s = .next (u.retire c) ∧ Claims.onlyPos s u
          ∧ u.pos.work = some { kind := .seek, origin := Claims.byHost c }
          ∧ (u.pos.motion.map Motion.seekTarget) = some t ∧ (u.pos.motion.map Motion.seekTimer) = some 0
          ∧ (u.pos.motion.map Motion.corrections) = some 0
          ∧ (∀ i ∈ Claims.ended s.pos s.pos.counter .superseded none, i ∈ u.transit)
          ∧ .positionCommandTakenNotice ∈ u.transit)
      ∧ (∀ m, s.pos.motion = some m → m.isSeek = false ∨ s.pos.state = .jumping →
        exec (.seek c) s = .next (Claims.deferredNow s (.seek c) c)))

namespace Sys2Proof.Claims

/-- The motion record of a retargeted seek (R72). -/
def retargetOf (m : Motion) (t asked : Nat) : Motion :=
  { m with seekTarget := t, clamped := decide (t ≠ asked), corrections := 0, seekTimer := 0 }

/-- The same with the retargeted flag set. -/
def retargetMarked (m : Motion) (t asked : Nat) : Motion := { retargetOf m t asked with retargeted := true }

end Sys2Proof.Claims

/-- A retarget by the phase in force (R72): a run goes on toward a target ahead beyond P.BRAKE_DIST, and brakes for any other;
a sled brake and a landing go on, with the retargeted flag set. By which phase the seek target is sent is the model's reading
(log 32). That with S.BRAKE_TIME 0 the landing begins in the same event (log 61), and that P.TRACK_MAX and P.BRAKE_DIST are those of
an apply of group 6 before the next set too (log 59), is the model's choice. -/
def Sys2Proof.Claims.RetargetFollowsThePhase : Prop :=
  ∀ (s : State) (c : Posted) (m : Motion) (asked t : Nat), s.held = false → asked = 65536 * c.w1.toNat + c.w2.toNat →
    t = min asked s.pos.params.trackMax → s.pos.views.recovery ≠ .active → s.pos.motion = some m → m.isSeek = true →
    s.pos.hostWork = true → s.pos.state = Claims.stateOfPhase m.phase →
    (m.phase = .run → (s.pos.params.brakeDist : Int) < m.dir * ((t : Int) - s.pos.counter) →
      ∃ u, exec (.seek c) s = .next (u.retire c) ∧ Claims.onlyPos s u ∧ u.pos.state = .seeking
        ∧ u.pos.motion = some (Claims.retargetOf m t asked) ∧ .seekTargetSend (some t) ∈ u.transit)
    ∧ (m.phase = .run → m.dir * ((t : Int) - s.pos.counter) ≤ s.pos.params.brakeDist → s.loop.sled.params.brakeTime ≠ 0 →
      ∃ u, exec (.seek c) s = .next (u.retire c) ∧ Claims.onlyPos s u ∧ u.pos.state = .seekBrake
        ∧ u.pos.motion = some { Claims.retargetMarked m t asked with phase := .sledBrake, brakeCount := 0 }
        ∧ .sledRequest (.driven (-(m.dir * s.loop.sled.params.brakeDuty))) ∈ u.transit)
    ∧ (m.phase = .run → m.dir * ((t : Int) - s.pos.counter) ≤ s.pos.params.brakeDist → s.loop.sled.params.brakeTime = 0 →
      ∃ u, exec (.seek c) s = .next (u.retire c) ∧ Claims.onlyPos s u ∧ u.pos.state = .settling
        ∧ u.pos.motion = some (Claims.landed { Claims.retargetMarked m t asked with brakeCount := 0 } s.pos.lastStamp)
        ∧ .sledRequest .toLoop ∈ u.transit ∧ .seekTargetSend none ∈ u.transit)
    ∧ (m.phase = .sledBrake →
      ∃ u, exec (.seek c) s = .next (u.retire c) ∧ Claims.onlyPos s u ∧ u.pos.state = .seekBrake
        ∧ u.pos.motion = some (Claims.retargetMarked m t asked) ∧ .seekTargetSend (some t) ∈ u.transit)
    ∧ (m.phase = .landing ∨ m.phase = .settle →
      ∃ u, exec (.seek c) s = .next (u.retire c) ∧ Claims.onlyPos s u ∧ u.pos.state = .settling
        ∧ u.pos.motion = some (Claims.retargetMarked m t asked))

/-- JUMP and SEEK as offered (R41, R65, R66, R68), and the retarget of a seek in flight by its phase (R72). The model's choices:
that a jump target is not held to 0..65535 (log 30), that P.KICK_DUTY, P.TRACK_MAX and P.BRAKE_DIST are those of an apply of group 6
before the next set too (log 59), and that with S.BRAKE_TIME 0 a retarget that ends the run begins the landing in the same event
(log 61). By which phase the seek target is sent is the model's reading (log 32). -/
def Obligations.JumpAndSeekBeginMotions : Prop :=
  Claims.JumpAndSeekAreAnswered ∧ Claims.RetargetFollowsThePhase

namespace Sys2Proof.Claims

/-- Only the Position Controller and the Recovery Controller have worked. -/
def onlyPosRecov (s u : State) : Prop := u = { s with pos := u.pos, recov := u.recov, transit := u.transit, subs := u.subs }

/-- A pull-in of recovery origin goes on with no origin after STOP; another work is not touched (R56). -/
def disowned (work : Option Work) : Option Work :=
  match work with
  | some { kind := k, origin := .recovery _ } => some { kind := k, origin := .none }
  | other => other

end Sys2Proof.Claims

/-- SET TRACK REFERENCE sets the counter, moves the map, the last good place and a jump's target with it, and is refused where
there is no place to refer to (R64); STOP ends a search, a park and a motion, and completes OK (R56, R73). -/
def Obligations.ReferenceAndStopAreTakenAtOnce : Prop :=
  ∀ (s : State) (c : Posted), s.held = false →
    ∀ delta : Int, delta = (c.w1.toNat : Int) - s.pos.counter →
    (s.pos.state ≠ .onTrack → s.pos.state ≠ .settling → s.pos.views.refWait = false →
      exec (.setTrackReference c) s =
        .next (Claims.refusedNow s (.setTrackReference c) c .notReady (Claims.counterWord s.pos)))
    ∧ (s.pos.state = .onTrack ∨ s.pos.state = .settling ∨ s.pos.views.refWait = true →
      (s.pos.valid = false →
        exec (.setTrackReference c) s = .next ((Claims.sent s (.setTrackReference c)
          ([.positionCommandTakenNotice] ++ Claims.counterReports s.pos c.w1.toNat true
            ++ [.referenceTakenNotice, Claims.doneOf c .ok c.w1]) []
          { s with pos := { s.pos with counter := c.w1.toNat, valid := true } }).retire c))
      ∧ (s.pos.valid = true →
        exec (.setTrackReference c) s = .next ((Claims.sent s (.setTrackReference c)
          ([.positionCommandTakenNotice, .rebaseDefectMap delta, .rebaseLastGoodPlace delta]
            ++ Claims.counterReports s.pos c.w1.toNat true ++ [.referenceTakenNotice, Claims.doneOf c .ok c.w1]) []
          { s with pos := { s.pos with
              counter := c.w1.toNat,
              motion := s.pos.motion.map (fun m =>
                if m.isSeek then m else { m with jumpTarget := m.jumpTarget.map (· + delta) }) } }).retire c)))
    ∧ (s.pos.state = .idle ∨ s.pos.state = .focused ∨ s.pos.state = .onTrack → s.pos.motion = none →
      ∃ u : State, exec (.stop c) s = .next (u.retire c) ∧ Claims.onlyPosRecov s u ∧ u.pos = s.pos
        ∧ Claims.doneOf c .ok (Claims.counterWord s.pos) ∈ u.transit ∧ .positionCommandTakenNotice ∈ u.transit)
    ∧ (s.pos.state = .trackPullin →
      ∃ u : State, exec (.stop c) s = .next (u.retire c) ∧ Claims.onlyPosRecov s u
        ∧ u.pos = { s.pos with work := Claims.disowned s.pos.work }
        ∧ Claims.doneOf c .ok (Claims.counterWord s.pos) ∈ u.transit)
    ∧ (s.pos.state = .focusSearch ∨ s.pos.state = .focusLocking →
      ∃ u : State, exec (.stop c) s = .next (u.retire c) ∧ Claims.onlyPosRecov s u ∧ Claims.searchEnded s u
        ∧ Claims.doneOf c .ok (Claims.counterWord s.pos) ∈ u.transit)
    ∧ (s.pos.state = .parking →
      ∃ u : State, exec (.stop c) s = .next (u.retire c) ∧ Claims.onlyPosRecov s u ∧ u.pos.state = .idle ∧ u.pos.work = none ∧ u.pos.parkTimer = none
        ∧ .sledRequest .toLoop ∈ u.transit ∧ (∀ i ∈ Claims.cutShort s.pos, i ∈ u.transit)
        ∧ Claims.doneOf c .ok (Claims.counterWord s.pos) ∈ u.transit)
    ∧ (∀ m, s.pos.state = .jumping ∨ s.pos.state = .seeking ∨ s.pos.state = .seekBrake ∨ s.pos.state = .settling →
      s.pos.motion = some m →
      ∃ u : State, exec (.stop c) s = .next (u.retire c) ∧ Claims.onlyPosRecov s u ∧ Claims.motionEnded s u m
        ∧ Claims.doneOf c .ok (Claims.counterWord s.pos) ∈ u.transit)

/-! ## Defect Monitor -/

namespace Sys2Proof.Claims

/-- The depth of a set (R79). -/
def depthOf (b : Def) (x : SampleSet) : Int := b.baseline / 16 - x.rs

/-- The freeze count after it is counted at a set (R79). -/
def frozen (b : Def) : Option Nat :=
  match b.freeze with
  | none => none
  | some n => if b.params.beta ≤ n + 1 then none else some (n + 1)

/-- The baseline moved toward the reflected sum (R79). -/
def moved (b : Def) (x : SampleSet) : Int :=
  max 0 (min 65520 (b.baseline + ((16 * x.rs - b.baseline) * b.params.alpha + 32) / 64))

/-- The angle that the Spindle Controller gives as it stands (R77, R110): 256 units a sector, and the part of the latest interval
that has gone by; none after a reverse edge. Without an interval the part is a free value (log 9). -/
def angleNow (s : State) : Nat :=
  256 * (s.spin.edges % 24)
    + (if s.spin.lastDir = some .reverse then 0
       else
         match s.spin.interval with
         | some n => min 255 ((s.clock - s.spin.edgeTime) * 256 / n)
         | none => min 255 (Config.subWithoutInterval s.spin.edges (s.clock - s.spin.edgeTime)))

/-- The predictive hold is enabled (R88). -/
def predicting (b : Def) : Prop :=
  b.params.prehold = 1 ∧ b.views.position = .onTrack ∧ b.views.valid = true ∧ b.views.angleValid = true

/-- Angle a lies within the guarded span of entry e (R88). -/
def guards (g : Nat) (e : Entry) (a : Nat) : Prop :=
  6144 ≤ e.len + 2 * g ∨ (a + (6144 - (e.start + 6144 - g) % 6144)) % 6144 < e.len + 2 * g

/-- Entry e is the current track's and guards the angle as it stands (R88, R89). -/
def guardsNow (s : State) (e : Entry) : Prop :=
  e.track = s.defect.views.counter ∧ guards s.defect.params.guardUnits e (angleNow s)

/-- No predictive window is open, and none opens at a set (R88, R89). -/
def windowIdle (s : State) : Prop :=
  s.defect.window = none ∧ (predicting s.defect → ∀ e ∈ s.defect.map, ¬ guardsNow s e)

/-- A defect set leaves the detector, the baseline, the records and the parameters as b has them, with these sub-steps, and sends
at most PREDICT requests; the window and the map are left to R88 to R90, and are as b has them too where no window is open and
none opens. -/
def detectorIs (s : State) (x : SampleSet) (b : Def) (subs : List SubStep) : Prop :=
  ∃ t, exec (.defectSet x) s = .next t ∧ onlyDefect s t ∧ t.subs = subs
    ∧ t.defect = { b with map := t.defect.map, window := t.defect.window }
    ∧ (∃ out, t.transit = s.transit.erase (.defectSet x) ++ out
        ∧ ∀ i ∈ out, ∃ on, i = .holdSourceRequest .both .predict on)
    ∧ (windowIdle s → t.defect = b ∧ t.transit = s.transit.erase (.defectSet x))

/-- The sub-step of a freeze that ends at a set. -/
def freezeSubs (b : Def) : List SubStep := if b.freeze.isSome = true ∧ frozen b = none then [.freezeEnd] else []

end Sys2Proof.Claims

/-- A set after activation initialises the baseline (R78); a set in CLEAR counts toward an open and moves the baseline, a set
in OPEN counts toward a close, the freeze is counted (R79 to R81); in INACTIVE a set leaves all of these as they are. So it is
whatever the predictive window does at the set. -/
def Obligations.DetectorCountsAndMovesBaseline : Prop :=
  ∀ (s : State) (x : SampleSet), s.held = false →
    (s.defect.det = .inactive → Claims.detectorIs s x s.defect [])
    ∧ (s.defect.det ≠ .inactive → s.defect.pendingInit = true →
      Claims.detectorIs s x
        { s.defect with
          baseline := 16 * x.rs, openRun := 0, closeRun := 0, depth := 0, freeze := none, pendingInit := false } [])
    ∧ (s.defect.det = .clear → s.defect.pendingInit = false →
      ((s.defect.params.depth : Int) ≤ Claims.depthOf s.defect x → s.defect.openRun + 1 < s.defect.params.filter) →
      Claims.detectorIs s x
        { s.defect with
          depth := Claims.depthOf s.defect x, freeze := Claims.frozen s.defect,
          openRun := if (s.defect.params.depth : Int) ≤ Claims.depthOf s.defect x then s.defect.openRun + 1 else 0,
          baseline := if Claims.frozen s.defect = none then Claims.moved s.defect x else s.defect.baseline }
        (Claims.freezeSubs s.defect))
    ∧ (s.defect.det = .opened → s.defect.pendingInit = false →
      (Claims.depthOf s.defect x < (s.defect.params.depth : Int) - s.defect.params.hyst →
        s.defect.closeRun + 1 < s.defect.params.filter) →
      Claims.detectorIs s x
        { s.defect with
          depth := Claims.depthOf s.defect x, freeze := Claims.frozen s.defect,
          closeRun := if Claims.depthOf s.defect x < (s.defect.params.depth : Int) - s.defect.params.hyst then
            s.defect.closeRun + 1 else 0 }
        (Claims.freezeSubs s.defect))

namespace Sys2Proof.Claims

/-- The open record at the opening set (R84). -/
def recordAt (s : State) : OpenRec :=
  { track := s.defect.views.counter, trackKnown := s.defect.views.valid, start := angleNow s,
    startKnown := s.defect.views.angleValid, markers := 0,
    usable := s.defect.views.valid && s.defect.views.angleValid && decide (s.defect.views.position = .onTrack) }

/-- The defect that closes with record r is learned (R85). -/
def learned (b : Def) (r : OpenRec) : Prop :=
  r.usable = true ∧ b.views.position = .onTrack ∧ b.views.valid = true ∧ b.views.angleValid = true ∧ b.params.learn = 1

/-- A window that is open has seen the defect: so it is while the detector is OPEN (R80, R89; EveryStepKeepsBounds). -/
def windowSaw (b : Def) : Prop := ∀ v, b.window = some v → v.seen = true

/-- The learned length (R85). -/
def lengthFrom (r : OpenRec) (last : Nat) : Nat :=
  if r.markers = 2 ∨ (r.markers = 1 ∧ r.start ≤ last) then 1024
  else min 1024 ((last + (6144 - r.start % 6144)) % 6144 + 1)

end Sys2Proof.Claims

/-- DEFECT_OPEN (R80, R84), DEFECT_CLOSE with learning into a map that has no entry of the track (R81, R85, R87), FREEZE_END
(R79). -/
def Sys2Proof.Claims.DefectOpensAndCloses : Prop :=
  ∀ (s : State) (x : SampleSet), s.held = false → s.defect.pendingInit = false →
    (s.defect.det = .clear → (s.defect.params.depth : Int) ≤ Claims.depthOf s.defect x →
      s.defect.params.filter ≤ s.defect.openRun + 1 →
      ∃ t, exec (.defectOpen x) s = .next t ∧ Claims.onlyDefect s t ∧ .defectOpen ∈ t.subs ∧ t.defect.det = .opened
        ∧ t.defect.openRun = 0 ∧ t.defect.closeRun = 0 ∧ t.defect.depth = Claims.depthOf s.defect x
        ∧ t.defect.openRec = some (Claims.recordAt s) ∧ t.defect.count = satIncr s.defect.count
        ∧ t.defect.baseline = s.defect.baseline ∧ .holdSourceRequest .both .defect true ∈ t.transit
        ∧ .triggerEvent .defectOpen ∈ t.transit)
    ∧ (∀ r, s.defect.det = .opened → s.defect.openRec = some r →
      Claims.depthOf s.defect x < (s.defect.params.depth : Int) - s.defect.params.hyst →
      s.defect.params.filter ≤ s.defect.closeRun + 1 →
      ∃ t, exec (.defectClose x) s = .next t ∧ Claims.onlyDefect s t ∧ .defectClose ∈ t.subs ∧ t.defect.det = .clear
        ∧ t.defect.openRun = 0 ∧ t.defect.closeRun = 0 ∧ t.defect.openRec = none
        ∧ t.defect.freeze = (if s.defect.params.beta = 0 then none else some 0)
        ∧ t.defect.baseline = s.defect.baseline ∧ .holdSourceRequest .both .defect false ∈ t.transit
        ∧ (Claims.windowSaw s.defect → ¬ Claims.learned s.defect r → t.defect.map = s.defect.map)
        ∧ (Claims.windowSaw s.defect → Claims.learned s.defect r → s.defect.map.length < 32 →
          (∀ e ∈ s.defect.map, e.track ≠ r.track.toNat) →
          ∀ e, e ∈ t.defect.map ↔ e ∈ s.defect.map ∨
            e = { track := r.track.toNat, start := r.start, len := Claims.lengthFrom r (Claims.angleNow s), hits := 1,
                  stamp := s.defect.views.rev }))
    ∧ (∀ n, s.defect.det = .clear → s.defect.freeze = some n → s.defect.params.beta ≤ n + 1 →
      ∃ t, exec (.freezeEnd x) s = .next t ∧ Claims.onlyDefect s t ∧ .freezeEnd ∈ t.subs ∧ t.defect.freeze = none)

namespace Sys2Proof.Claims

/-- Angle unit a lies in the span of `len` units from `start` (R83). -/
def inSpan (start len a : Nat) : Prop := (a + (6144 - start % 6144)) % 6144 < len

/-- Going round from the end of one span to the start of another (R83). -/
def gapFrom (start len next : Nat) : Int := ((next : Int) - start - len) % 6144

/-- The span of `len` units from `start` is near entry e (R83). -/
def nearTo (gap start len : Nat) (e : Entry) : Prop :=
  (∃ a, a < 6144 ∧ inSpan start len a ∧ inSpan e.start e.len a)
    ∨ gapFrom start len e.start ≤ gap ∨ gapFrom e.start e.len start ≤ gap

/-- From unit `start` on, `len` units begin and end with a unit of P, and the rest of the revolution has none (R86). -/
def spans (P : Nat → Prop) (start len : Nat) : Prop :=
  start < 6144 ∧ 1 ≤ len ∧ len ≤ 6144 ∧ P start ∧ P ((start + len - 1) % 6144)
    ∧ ∀ j, len ≤ j → j < 6144 → ¬ P ((start + j) % 6144)

/-- The union of the units P (R86): the revolution less its largest free gap, the lower start where two are equal. Where no unit
is free, the start is left open here. -/
def unionIs (P : Nat → Prop) (start len : Nat) : Prop :=
  spans P start len ∧ ∀ start' len', spans P start' len' → len' < 6144 → len < len' ∨ len = len' ∧ start ≤ start'

/-- The learned span of `len0` units from `start0` has grown, by steps of merging with the entries `same` of its track, to `len`
units from `start`, and has taken in the entries T (R86). -/
inductive Grown (gap : Nat) (same : List Entry) (start0 len0 : Nat) : Nat → Nat → (Entry → Prop) → Prop where
  | learned : Grown gap same start0 len0 start0 len0 (fun _ => False)
  | merged {start len start' len' : Nat} {T : Entry → Prop} :
      Grown gap same start0 len0 start len T →
      (∃ e ∈ same, ¬ T e ∧ nearTo gap start len e) →
      unionIs (fun a => inSpan start len a ∨ ∃ e ∈ same, ¬ T e ∧ nearTo gap start len e ∧ inSpan e.start e.len a)
        start' len' →
      Grown gap same start0 len0 start' len' (fun e => T e ∨ e ∈ same ∧ nearTo gap start len e)

/-- Entry e, at its position in the map, is the one to evict (R87): the lowest hits, then the largest age, then the lowest
position. -/
def evicts (rev : Word) (before after : List Entry) (e : Entry) : Prop :=
  (∀ y ∈ before, e.hits < y.hits ∨ e.hits = y.hits ∧ (rev - y.stamp).toNat < (rev - e.stamp).toNat)
    ∧ ∀ y ∈ after, e.hits < y.hits ∨ e.hits = y.hits ∧ (rev - y.stamp).toNat ≤ (rev - e.stamp).toNat

/-- The spans of the map's entries on this track are spans of R83. -/
def properSpans (s : State) (r : OpenRec) : Prop :=
  r.start < 6144 ∧ ∀ e ∈ s.defect.map, e.track = r.track.toNat → e.start < 6144 ∧ 1 ≤ e.len ∧ e.len ≤ 1024

end Sys2Proof.Claims

/-- A learned defect at DEFECT_CLOSE: near no entry of its track it is inserted, the map's weakest entry evicted where the map
is full (R87); else it is merged with the entries near it, step by step (R86). That the union is cut to 1024 units when the
merging ends is the model's choice, and the start of a union without a free gap is not claimed (log 34). -/
def Sys2Proof.Claims.LearnedDefectIsMergedOrInserted : Prop :=
  ∀ (s : State) (x : SampleSet) (r : OpenRec) (len : Nat), s.held = false → s.defect.pendingInit = false →
    s.defect.det = .opened → s.defect.openRec = some r →
    Claims.depthOf s.defect x < (s.defect.params.depth : Int) - s.defect.params.hyst →
    s.defect.params.filter ≤ s.defect.closeRun + 1 → Claims.windowSaw s.defect → Claims.learned s.defect r →
    len = Claims.lengthFrom r (Claims.angleNow s) → Claims.properSpans s r →
    ((∀ e ∈ s.defect.map, e.track = r.track.toNat → ¬ Claims.nearTo s.defect.params.mergeGap r.start len e) →
      (s.defect.map.length < 32 →
        ∃ t, exec (.defectClose x) s = .next t ∧ Claims.onlyDefect s t
          ∧ ∀ e, e ∈ t.defect.map ↔ e ∈ s.defect.map ∨
            e = { track := r.track.toNat, start := r.start, len := len, hits := 1, stamp := s.defect.views.rev })
      ∧ (∀ before d after, 32 ≤ s.defect.map.length → s.defect.map = before ++ d :: after → d ∉ after →
        Claims.evicts s.defect.views.rev before after d →
        ∃ t, exec (.defectClose x) s = .next t ∧ Claims.onlyDefect s t
          ∧ ∀ e, e ∈ t.defect.map ↔ e ∈ before ∨ e ∈ after ∨
            e = { track := r.track.toNat, start := r.start, len := len, hits := 1, stamp := s.defect.views.rev }))
    ∧ ((∃ e ∈ s.defect.map, e.track = r.track.toNat ∧ Claims.nearTo s.defect.params.mergeGap r.start len e) →
      ∃ t start' len' T h, exec (.defectClose x) s = .next t ∧ Claims.onlyDefect s t
        ∧ Claims.Grown s.defect.params.mergeGap (s.defect.map.filter (fun e => decide (e.track = r.track.toNat)))
            r.start len start' len' T
        ∧ (∀ e ∈ s.defect.map, e.track = r.track.toNat → ¬ T e →
            ¬ Claims.nearTo s.defect.params.mergeGap start' len' e)
        ∧ (∃ e, T e ∧ e.hits = h) ∧ (∀ e, T e → e.hits ≤ h)
        ∧ ∀ e, e ∈ t.defect.map ↔ (e ∈ s.defect.map ∧ ¬ T e) ∨
            e = { track := r.track.toNat, start := start', len := min 1024 len', hits := min 15 (h + 1),
                  stamp := s.defect.views.rev })

/-- DEFECT_OPEN (R80, R84), DEFECT_CLOSE with learning: the insertion, the eviction from a full map (R87) and the merge (R86)
of a learned span (R81, R85), FREEZE_END (R79). That a union is cut to 1024 units when the merging ends is the model's choice,
and where a union has no free gap its start is not claimed (log 34). -/
def Obligations.DefectOpensClosesAndIsLearned : Prop :=
  Claims.DefectOpensAndCloses ∧ Claims.LearnedDefectIsMergedOrInserted

namespace Sys2Proof.Claims

/-- A set at which the detector opens and closes nothing (R80, R81). -/
def uneventful (b : Def) (x : SampleSet) : Prop :=
  b.det = .inactive ∨ (b.det = .clear ∧ b.pendingInit = false ∧ depthOf b x < (b.params.depth : Int))

/-- The window attached to entry e. -/
def windowAt (v : Window) (e : Entry) : Prop := e.track = v.track ∧ e.start = v.start

end Sys2Proof.Claims

/-- A window opens at the first entry whose guarded span holds the angle, stays open within it, and closes behind it; an entry
that brought no defect loses one hit, and goes with its last (R88 to R90): so at a set with prediction enabled at which the
detector opens and closes nothing. -/
def Sys2Proof.Claims.WindowWhilePredicting : Prop :=
  ∀ (s : State) (x : SampleSet), s.held = false → Claims.uneventful s.defect x → Claims.predicting s.defect →
    (∀ e before after, s.defect.window = none → s.defect.map = before ++ e :: after → Claims.guardsNow s e →
      (∀ y ∈ before, ¬ Claims.guardsNow s y) →
      ∃ t, exec (.defectSet x) s = .next t ∧ Claims.onlyDefect s t ∧ t.defect.map = s.defect.map
        ∧ t.defect.window = some { track := e.track, start := e.start, seen := false }
        ∧ .holdSourceRequest .both .predict true ∈ t.transit)
    ∧ (s.defect.window = none → (∀ y ∈ s.defect.map, ¬ Claims.guardsNow s y) →
      ∃ t, exec (.defectSet x) s = .next t ∧ Claims.onlyDefect s t ∧ t.defect.map = s.defect.map
        ∧ t.defect.window = none ∧ t.transit = s.transit.erase (.defectSet x))
    ∧ (∀ v e before after, s.defect.window = some v → s.defect.map = before ++ e :: after → Claims.windowAt v e →
      (∀ y ∈ before, ¬ Claims.windowAt v y) →
      (Claims.guardsNow s e →
        ∃ t, exec (.defectSet x) s = .next t ∧ Claims.onlyDefect s t ∧ t.defect.map = s.defect.map
          ∧ t.defect.window = some v ∧ t.transit = s.transit.erase (.defectSet x))
      ∧ (¬ Claims.guardsNow s e → (∀ y ∈ s.defect.map, ¬ Claims.guardsNow s y) →
        (v.seen = true ∨ e.track ≠ s.defect.views.counter →
          ∃ t, exec (.defectSet x) s = .next t ∧ Claims.onlyDefect s t ∧ t.defect.window = none
            ∧ t.defect.map = s.defect.map ∧ .holdSourceRequest .both .predict false ∈ t.transit)
        ∧ (v.seen = false → e.track = s.defect.views.counter → e ∉ before → e ∉ after →
          ∃ t, exec (.defectSet x) s = .next t ∧ Claims.onlyDefect s t ∧ t.defect.window = none
            ∧ .holdSourceRequest .both .predict false ∈ t.transit
            ∧ t.defect.map = (if e.hits ≤ 1 then before ++ after else before ++ { e with hits := e.hits - 1 } :: after))))

namespace Sys2Proof.Claims

/-- The defect opens at this set (R80). -/
def opensAt (b : Def) (x : SampleSet) : Prop :=
  b.det = .clear ∧ b.pendingInit = false ∧ (b.params.depth : Int) ≤ depthOf b x ∧ b.params.filter ≤ b.openRun + 1

/-- The defect closes at this set (R81). -/
def closesAt (b : Def) (x : SampleSet) : Prop :=
  b.det = .opened ∧ b.pendingInit = false ∧ depthOf b x < (b.params.depth : Int) - b.params.hyst
    ∧ b.params.filter ≤ b.closeRun + 1

/-- A defect closes at this set and is learned (R81, R85). -/
def learnsAt (b : Def) (x : SampleSet) : Prop := closesAt b x ∧ ∃ r, b.openRec = some r ∧ learned b r

/-- The set sends these PREDICT requests, last and in this order, and no others (R89). -/
def predicts (s t : State) (x : SampleSet) (requests : List Bool) : Prop :=
  ∃ out, t.transit = s.transit.erase (.defectSet x) ++ out ++ requests.map (fun on => .holdSourceRequest .both .predict on)
    ∧ ∀ on, .holdSourceRequest .both .predict on ∉ out

/-- A window is sought in the map as it is after the set, PREDICT requests `before` having been sent (R89, first two rows): it
opens on the first entry that guards the angle, the defect seen where the detector is OPEN. -/
def sought (s t : State) (x : SampleSet) (before : List Bool) : Prop :=
  (∀ e front back, predicting s.defect → t.defect.map = front ++ e :: back → guardsNow s e →
      (∀ y ∈ front, ¬ guardsNow s y) →
      t.defect.window = some { track := e.track, start := e.start, seen := decide (t.defect.det = .opened) }
        ∧ predicts s t x (before ++ [true]))
    ∧ (¬ predicting s.defect ∨ (∀ y ∈ t.defect.map, ¬ guardsNow s y) →
      t.defect.window = none ∧ predicts s t x before)

/-- DEFECT_SET gives t, only the Defect Monitor works, and the detector is OPEN after it as R80 and R81 say. -/
def defectSetGives (s t : State) (x : SampleSet) : Prop :=
  exec (.defectSet x) s = .next t ∧ onlyDefect s t
    ∧ (t.defect.det = .opened ↔ opensAt s.defect x ∨ s.defect.det = .opened ∧ ¬ closesAt s.defect x)

end Sys2Proof.Claims

/-- The predictive window at every set at which no defect is learned, with prediction enabled or not, and whether or not a defect
opens, stays open or closes at it (R88 to R90). -/
def Sys2Proof.Claims.WindowAtEverySet : Prop :=
  ∀ (s : State) (x : SampleSet), s.held = false → ¬ Claims.learnsAt s.defect x →
    ∃ t, Claims.defectSetGives s t x
      ∧ (s.defect.window = none → t.defect.map = s.defect.map ∧ Claims.sought s t x [])
      ∧ ∀ v, s.defect.window = some v →
        (∀ e before after, s.defect.map = before ++ e :: after → Claims.windowAt v e → (∀ y ∈ before, ¬ Claims.windowAt v y) →
          (Claims.predicting s.defect → Claims.guardsNow s e →
            t.defect.map = s.defect.map ∧ Claims.predicts s t x []
              ∧ t.defect.window = some { v with seen := v.seen || decide (t.defect.det = .opened) })
          ∧ (¬ Claims.predicting s.defect ∨ ¬ Claims.guardsNow s e →
            Claims.sought s t x [false]
              ∧ (¬ Claims.predicting s.defect ∨ e.track ≠ s.defect.views.counter ∨ v.seen = true
                  ∨ Claims.opensAt s.defect x → t.defect.map = s.defect.map)
              ∧ (Claims.predicting s.defect → e.track = s.defect.views.counter → v.seen = false →
                  ¬ Claims.opensAt s.defect x → e ∉ before → e ∉ after →
                  t.defect.map =
                    (if e.hits ≤ 1 then before ++ after else before ++ { e with hits := e.hits - 1 } :: after))))
        ∧ ((∀ y ∈ s.defect.map, ¬ Claims.windowAt v y) → t.defect.map = s.defect.map ∧ Claims.sought s t x [false])

/-- At a set at which a defect is learned while no window is open, a window is sought in the map that the learning leaves
(R77, R89). -/
def Sys2Proof.Claims.WindowAfterLearning : Prop :=
  ∀ (s : State) (x : SampleSet), s.held = false → Claims.learnsAt s.defect x → s.defect.window = none →
    ∃ t, Claims.defectSetGives s t x ∧ Claims.sought s t x []

/-- A window opens at the first entry whose guarded span holds the angle, stays open within it, and closes behind it or when
prediction is disabled; an entry that brought no defect loses one hit, and goes with its last (R88 to R90). So at every set at which
no defect is learned, whether or not a defect opens, stays open or closes; and where one is learned while no window is open, a
window is sought in the map it leaves. -/
def Obligations.PredictiveWindowOpensStaysAndFades : Prop :=
  Claims.WindowWhilePredicting ∧ Claims.WindowAtEverySet ∧ Claims.WindowAfterLearning

namespace Sys2Proof.Claims

/-- The open record loses its usable flag (R84). -/
def spoiled (b : Def) : Def := { b with openRec := b.openRec.map (fun r => { r with usable := false }) }

/-- What an open window sends when it closes between sets (R89). -/
def windowGone (b : Def) : List Instr := onlyIf b.window.isSome (.holdSourceRequest .both .predict false)

/-- The track number is one of the counter's (R93). -/
def onDisc (v : Int) : Prop := 0 ≤ v ∧ v ≤ 65535

/-- An entry moved by a rebase (R93). -/
def rebased (delta : Int) (e : Entry) : Entry := { e with track := ((e.track : Int) + delta).toNat }

end Sys2Proof.Claims

/-- The Defect Monitor's reports and notices: focus-in and focus-out (R78, R82), the neighbours' states (R77, R84), the
revolution marker (R84), the rebase (R93), the Hall fault and unload notices (R92), and CLEAR MAP (R91). -/
def Obligations.DefectMonitorTakesReports : Prop :=
  ∀ s : State, s.held = false →
    (s.defect.det = .inactive → exec .focusInReport s = .next (Claims.sent s .focusInReport [] []
      { s with defect := { s.defect with det := .clear, pendingInit := true } }))
    ∧ (s.defect.det ≠ .inactive → exec .focusInReport s = .next (Claims.sent s .focusInReport [] [] s))
    ∧ (s.defect.det = .opened → exec .focusOutReport s = .next (Claims.sent s .focusOutReport
      [.holdSourceRequest .both .defect false] []
      { s with defect := { s.defect with
          det := .inactive, openRec := none, openRun := 0, closeRun := 0, freeze := none } }))
    ∧ (s.defect.det ≠ .opened → exec .focusOutReport s = .next (Claims.sent s .focusOutReport [] []
      { s with defect := { s.defect with det := .inactive } }))
    ∧ (∀ st, exec (.defectNeighbourReport (.position st)) s =
      .next (Claims.sent s (.defectNeighbourReport (.position st)) [] []
        { s with defect :=
            let b := { s.defect with views := { s.defect.views with position := st } }
            if st = .onTrack then b else Claims.spoiled b }))
    ∧ (∀ v ok, exec (.defectNeighbourReport (.counter v ok)) s =
      .next (Claims.sent s (.defectNeighbourReport (.counter v ok)) [] []
        { s with defect :=
            let b := { s.defect with views := { s.defect.views with counter := v, valid := ok } }
            if ok then b else Claims.spoiled b }))
    ∧ (∀ ok, exec (.defectNeighbourReport (.angleValid ok)) s =
      .next (Claims.sent s (.defectNeighbourReport (.angleValid ok)) [] []
        { s with defect :=
            let b := { s.defect with views := { s.defect.views with angleValid := ok } }
            if ok then b else Claims.spoiled b }))
    ∧ (∀ rev, exec (.revolutionMarkerDefect rev) s = .next (Claims.sent s (.revolutionMarkerDefect rev) [] []
      { s with defect := { s.defect with
          views := { s.defect.views with rev := rev },
          openRec := s.defect.openRec.map (fun r => { r with markers := min 2 (r.markers + 1) }) } }))
    ∧ (∀ delta, (∀ v, s.defect.window = some v → Claims.onDisc (v.track + delta)) →
      ∃ t, exec (.rebaseDefectMap delta) s = .next t ∧ Claims.onlyDefect s t
        ∧ t.transit = s.transit.erase (.rebaseDefectMap delta)
        ∧ t.defect = { s.defect with
            map := t.defect.map,
            openRec := s.defect.openRec.map (fun r =>
              { r with track := r.track + delta,
                       usable := r.usable && (decide (0 ≤ r.track + delta) && decide (r.track + delta ≤ 65535)) }),
            window := s.defect.window.map (fun v => { v with track := ((v.track : Int) + delta).toNat }) }
        ∧ ∀ e, e ∈ t.defect.map ↔ ∃ y ∈ s.defect.map, Claims.onDisc (y.track + delta) ∧ e = Claims.rebased delta y)
    ∧ (∀ delta v, s.defect.window = some v → ¬ Claims.onDisc (v.track + delta) →
      ∃ t, exec (.rebaseDefectMap delta) s = .next t ∧ Claims.onlyDefect s t ∧ t.defect.window = none
        ∧ .holdSourceRequest .both .predict false ∈ t.transit
        ∧ ∀ e, e ∈ t.defect.map ↔ ∃ y ∈ s.defect.map, Claims.onDisc (y.track + delta) ∧ e = Claims.rebased delta y)
    ∧ exec .hallFaultNotice s = .next (Claims.sent s .hallFaultNotice (Claims.windowGone s.defect) []
        { s with defect := Claims.spoiled { s.defect with map := [], window := none } })
    ∧ exec .unloadNoticeDefect s = .next (Claims.sent s .unloadNoticeDefect (Claims.windowGone s.defect) []
        { s with defect := Claims.spoiled { s.defect with map := [], window := none } })
    ∧ (∀ c, exec (.clearMap c) s = .next ((Claims.sent s (.clearMap c)
        (Claims.windowGone s.defect ++ [Claims.doneOf c .ok (BitVec.ofNat 16 s.defect.map.length)]) []
        { s with defect := { s.defect with map := [], window := none } }).retire c))

/-! ## Shock Monitor -/

namespace Sys2Proof.Claims

/-- A feed-forward value (R101). -/
def ffOf (p : ShockParams) (shock : Bool) (factor sh : Int) : Int :=
  if shock = true ∧ p.ffEnable = 1 then max (-(p.ffLimit : Int)) (min (p.ffLimit : Int) ((sh * factor + 2048) / 4096))
  else 0

/-- The two feed-forward values handed over at a set (R102). -/
def ffSent (p : ShockParams) (shock : Bool) (sh : Int) : List Instr :=
  [.feedForwardValue .focus (ffOf p shock p.ffF sh), .feedForwardValue .track (ffOf p shock p.ffT sh)]

/-- The monitor with the shock signal of a set, a shock state, and the feed-forward values formed from them (R97, R101). -/
def shocked (b : Shock) (shock : Bool) (sh : Int) : Shock :=
  { b with shc := sh, shock := shock, ffFocus := ffOf b.params shock b.params.ffF sh,
           ffTrack := ffOf b.params shock b.params.ffT sh }

end Sys2Proof.Claims

/-- In QUIET the start run is counted, and at 2 the shock begins (R98). -/
def Sys2Proof.Claims.ShockBeginsAtTwoStrongSets : Prop :=
  ∀ (s : State) (x : SampleSet), s.held = false → s.shock.shock = false →
    (x.sh.natAbs < s.shock.params.start → exec (.shockSet x) s =
      .next (Claims.sent s (.shockSet x) (Claims.ffSent s.shock.params false x.sh) []
        { s with shock := { Claims.shocked s.shock false x.sh with startRun := 0 } }))
    ∧ (s.shock.params.start ≤ x.sh.natAbs → s.shock.startRun = 0 → exec (.shockSet x) s =
      .next (Claims.sent s (.shockSet x) (Claims.ffSent s.shock.params false x.sh) []
        { s with shock := { Claims.shocked s.shock false x.sh with startRun := 1 } }))
    ∧ (s.shock.params.start ≤ x.sh.natAbs → 1 ≤ s.shock.startRun → exec (.shockStart x) s =
      .next (Claims.sent s (.shockSet x)
        ([.gainSetRequest .both .shock, .shockReport true, .triggerEvent .shockStart]
          ++ Claims.ffSent s.shock.params true x.sh) [.shockStart]
        { s with shock := { Claims.shocked s.shock true x.sh with
            startRun := 0, quietCount := 0, count := min 65535 (s.shock.count + 1) } }))

/-- In SHOCK the quiet count is counted, and at K.QUIET the shock ends (R99); the feed-forward values are those of the state
after it (R101). -/
def Sys2Proof.Claims.ShockEndsAfterQuietSets : Prop :=
  ∀ (s : State) (x : SampleSet), s.held = false → s.shock.shock = true →
    (s.shock.params.stop ≤ x.sh.natAbs → exec (.shockSet x) s =
      .next (Claims.sent s (.shockSet x) (Claims.ffSent s.shock.params true x.sh) []
        { s with shock := { Claims.shocked s.shock true x.sh with quietCount := 0 } }))
    ∧ (x.sh.natAbs < s.shock.params.stop → min 65535 (s.shock.quietCount + 1) < s.shock.params.quiet →
      exec (.shockSet x) s =
      .next (Claims.sent s (.shockSet x) (Claims.ffSent s.shock.params true x.sh) []
        { s with shock := { Claims.shocked s.shock true x.sh with quietCount := min 65535 (s.shock.quietCount + 1) } }))
    ∧ (x.sh.natAbs < s.shock.params.stop → s.shock.params.quiet ≤ min 65535 (s.shock.quietCount + 1) →
      exec (.shockEnd x) s =
      .next (Claims.sent s (.shockSet x)
        ([.gainSetRequest .both .normal, .shockReport false] ++ Claims.ffSent s.shock.params false x.sh) [.shockEnd]
        { s with shock := { Claims.shocked s.shock false x.sh with startRun := 0, quietCount := 0 } }))

/-- In QUIET the start run is counted, and at 2 the shock begins (R98); in SHOCK the quiet count is counted, and at K.QUIET the
shock ends (R99); every set forms the feed-forward values of the state after it (R101). -/
def Obligations.ShockBeginsAndEnds : Prop :=
  Claims.ShockBeginsAtTwoStrongSets ∧ Claims.ShockEndsAfterQuietSets

/-! ## Spindle Controller -/

namespace Sys2Proof.Claims

/-- A valid Hall state (R107). -/
def validHall (h : BitVec 3) : Prop := h ≠ 0 ∧ h ≠ 7

/-- A Hall fault (R107). -/
def hallFault (a b : BitVec 3) : Prop := validHall a ∧ a ≠ b ∧ ¬ forward a b ∧ ¬ forward b a

/-- Only the Spindle Controller has worked, its microsecond count at `clock`. -/
def onlySpinAt (s t : State) (clock : Nat) : Prop :=
  t = { s with spin := t.spin, clock := clock, transit := t.transit, subs := t.subs }

/-- The interval of a forward edge at time t with its reference at time r (R109). -/
def intervalOf (t r : Nat) : Nat := max 1 (min 1000000 (t - r))

/-- The timers after an edge: the stall timer at 0 while the spindle runs (R117), the stop timer at 0 in COASTING and in BRAKING
with magnitude 0 in force (R121), and each absent in any other state. -/
def timersRestarted (b : Spin) : Prop :=
  b.stallTimer = (if running b.state then some 0 else none)
    ∧ b.stopTimer = (if b.state = .coasting ∨ (b.state = .braking ∧ b.magnitude = 0) then some 0 else none)

/-- The angle is valid (R110). -/
def angleOf (b : Spin) : Bool := b.origin && b.interval.isSome

/-- What event i sends reports the angle valid flag to the Defect Monitor and the Recovery Controller where it changes, and only
there (R110); it sends the spindle-enable clear request where `clears` holds, and only there. -/
def angleReported (s t : State) (i : Instr) (clears : Prop) : Prop :=
  ∃ out, t.transit = s.transit.erase i ++ out ∧ (.spindleEnableRequest false ∈ out ↔ clears)
    ∧ ∀ v, (.defectNeighbourReport (.angleValid v) ∈ out ↔ angleOf t.spin ≠ angleOf s.spin ∧ v = angleOf t.spin)
        ∧ (.holdSourceReport (.angleValid v) ∈ out ↔ angleOf t.spin ≠ angleOf s.spin ∧ v = angleOf t.spin)

/-- The pattern and magnitude in force in t are those delivered (R111). -/
def delivered (t : State) : Prop := .dutyDelivery (.spindle t.spin.pattern t.spin.magnitude) ∈ t.transit

end Sys2Proof.Claims

/-- A forward edge, a reverse edge, a Hall fault, a valid state after 0 or 7, and a change that is nothing (R107 to R110, R112,
R117, R120 to R122): the update phase, the stall timer and the stop timer among the rest. The model's
choices: that the microsecond count is at the edge time at least (log 7), and that the short-brake pattern comes into force where
a brake drive ends with SP.BRAKE_MODE short (log 64). That a Hall fault ends an open respin request in every state is the model's
reading (log 49). -/
def Sys2Proof.Claims.HallStatesMoveTheSpindle : Prop :=
  ∀ (s : State) (h : BitVec 3) (u : Nat), s.held = false → ∀ c, c = max s.clock u →
    (Claims.forward s.spin.hall h →
      ∃ t, exec (.hallStateTaken h u) s = .next t ∧ Claims.onlySpinAt s t c ∧ t.spin.hall = h
        ∧ t.spin.edges = (s.spin.edges + 1) % 65520 ∧ t.spin.lastDir = some .forward ∧ t.spin.edgeTime = u
        ∧ t.spin.refTime = some u ∧ t.spin.origin = s.spin.origin ∧ Claims.delivered t
        ∧ Claims.angleReported s t (.hallStateTaken h u) False
        ∧ (s.spin.refTime = none → t.spin.interval = s.spin.interval ∧ t.spin.history = s.spin.history)
        ∧ (∀ r, s.spin.refTime = some r → t.spin.interval = some (Claims.intervalOf u r)
            ∧ (s.spin.history.length = 6 →
                t.spin.history = s.spin.history.tail ++ [Claims.intervalOf u r])
            ∧ (s.spin.history.length < 6 → t.spin.history = s.spin.history ++ [Claims.intervalOf u r]))
        ∧ (t.spin.edges % 24 = 0 → t.spin.origin = true → t.spin.interval ≠ none →
            t.spin.rev = s.spin.rev + 1 ∧ .revolutionMarkerPosition ∈ t.transit
              ∧ .revolutionMarkerDefect (s.spin.rev + 1) ∈ t.transit
              ∧ .revolutionMarkerRecovery (s.spin.rev + 1) ∈ t.transit)
        ∧ (t.spin.edges % 24 ≠ 0 ∨ t.spin.origin = false ∨ t.spin.interval = none → t.spin.rev = s.spin.rev)
        ∧ (s.spin.refTime = none → s.spin.phase < 6 → t.spin.phase = s.spin.phase)
        ∧ (s.spin.refTime ≠ none → t.spin.phase = (if s.spin.phase = 5 then 0 else s.spin.phase + 1))
        ∧ Claims.timersRestarted t.spin
        ∧ (Claims.running s.spin.state → Claims.running t.spin.state)
        ∧ (s.spin.refTime = none ∨ s.spin.phase ≠ 5 → s.spin.phase < 6 → Claims.running s.spin.state →
            t.spin.state = s.spin.state ∧ t.spin.duty = s.spin.duty ∧ t.spin.integ = s.spin.integ)
        ∧ (s.spin.state = .stopped ∨ s.spin.state = .coasting → t.spin.state = .coasting)
        ∧ (s.spin.state = .fault → t.spin.state = .fault)
        ∧ (s.spin.state = .braking → t.spin.state = .braking ∧ t.spin.brakeDrive = s.spin.brakeDrive
            ∧ t.spin.brakeTimer = (if s.spin.brakeDrive then some 0 else none)))
    ∧ (Claims.forward h s.spin.hall →
      ∃ t, exec (.hallStateTaken h u) s = .next t ∧ Claims.onlySpinAt s t c ∧ t.spin.hall = h
        ∧ t.spin.edges = (s.spin.edges + 65519) % 65520 ∧ t.spin.lastDir = some .reverse ∧ t.spin.edgeTime = u
        ∧ t.spin.refTime = some u ∧ t.spin.history = [] ∧ t.spin.phase = 0 ∧ t.spin.interval = s.spin.interval
        ∧ t.spin.rev = s.spin.rev ∧ t.spin.origin = s.spin.origin ∧ Claims.delivered t
        ∧ Claims.angleReported s t (.hallStateTaken h u) False
        ∧ Claims.timersRestarted t.spin
        ∧ (Claims.running s.spin.state → t.spin.state = .starting ∧ t.spin.integ = 0 ∧ t.spin.duty = 0 ∧ t.spin.inRun = 0
            ∧ t.spin.outRun = 0)
        ∧ (s.spin.state = .stopped ∨ s.spin.state = .coasting → t.spin.state = .coasting)
        ∧ (s.spin.state = .fault → t.spin.state = .fault)
        ∧ (s.spin.state = .braking → t.spin.state = .braking ∧ t.spin.brakeDrive = false ∧ t.spin.brakeTimer = none
            ∧ t.spin.magnitude = 0 ∧ t.spin.stopTimer = some 0
            ∧ t.spin.pattern = (if s.spin.params.brakeMode = 0 then .shortBrake else .coast)))
    ∧ (Claims.hallFault s.spin.hall h →
      ∃ t, exec (.hallStateTaken h u) s = .next t ∧ Claims.onlySpinAt s t c ∧ t.spin.hall = h ∧ t.spin.origin = false
        ∧ t.spin.interval = none ∧ t.spin.history = [] ∧ t.spin.phase = 0 ∧ t.spin.refTime = none
        ∧ t.spin.edges = s.spin.edges ∧ t.spin.rev = s.spin.rev ∧ t.spin.target = s.spin.target
        ∧ t.spin.stopKind = s.spin.stopKind ∧ t.spin.respin = none
        ∧ .hallFaultNotice ∈ t.transit ∧ .condition .spindleFault ∈ t.transit
        ∧ Claims.angleReported s t (.hallStateTaken h u)
            (Claims.running s.spin.state ∨ s.spin.state = .braking ∨ s.spin.views.enable = true)
        ∧ (Claims.running s.spin.state → t.spin.state = .fault ∧ t.spin.integ = 0 ∧ t.spin.duty = 0
            ∧ (∀ k, s.spin.work = some k → k.isStop = false → t.spin.work = none
                ∧ Claims.done k.tag k.code .interrupted (Claims.spinValue s.spin) ∈ t.transit))
        ∧ (∀ k, s.spin.work = some k → k.isStop = true ∨ ¬ Claims.running s.spin.state → t.spin.work = some k)
        ∧ (s.spin.state = .braking → t.spin.state = .coasting)
        ∧ (¬ Claims.running s.spin.state → s.spin.state ≠ .braking → t.spin.state = s.spin.state))
    ∧ (¬ Claims.validHall s.spin.hall → Claims.validHall h →
      ∃ t, exec (.hallStateTaken h u) s = .next t ∧ Claims.onlySpinAt s t c
        ∧ Claims.angleReported s t (.hallStateTaken h u) False
        ∧ (s.spin.views.loading = .loaded →
            t.spin = { s.spin with hall := h, edges := 0, interval := none, origin := true })
        ∧ (s.spin.views.loading ≠ .loaded → t.spin = { s.spin with hall := h }))
    ∧ (s.spin.hall = h ∨ (¬ Claims.validHall s.spin.hall ∧ ¬ Claims.validHall h) →
      exec (.hallStateTaken h u) s = .next (Claims.sent s (.hallStateTaken h u) [] []
        { s with spin := { s.spin with hall := h }, clock := c }))

namespace Sys2Proof.Claims

/-- Pattern and magnitude by the spindle state (R111). -/
def patternOf (b : Spin) : Pattern × Int :=
  match b.state with
  | .starting => (.forward b.hall, b.params.limit)
  | .slewing | .regulating =>
    if 0 < b.duty then (.forward b.hall, b.duty)
    else if b.duty = 0 then (.coast, 0)
    else if b.params.brakeMode = 1 then (.reverse b.hall, b.duty.natAbs) else (.shortBrake, 0)
  | .braking =>
    if b.brakeDrive then (.reverse b.hall, b.params.limit)
    else if b.params.brakeMode = 0 then (.shortBrake, 0) else (.coast, 0)
  | .stopped | .coasting | .fault => (.coast, 0)

/-- What is delivered: coast in place of a forward pattern with a magnitude above 0, while the loading state is other than
LOADED (R111). -/
def deliveredOf (b : Spin) : Pattern × Int :=
  if (∃ h, (patternOf b).1 = .forward h) ∧ 0 < (patternOf b).2 ∧ b.views.loading ≠ .loaded then (.coast, 0)
  else patternOf b

/-- The state, the duty, the brake drive or the loading view has changed (R111). -/
def drivenAnew (s t : State) : Prop :=
  t.spin.state ≠ s.spin.state ∨ t.spin.duty ≠ s.spin.duty ∨ t.spin.brakeDrive ≠ s.spin.brakeDrive
    ∨ t.spin.views.loading ≠ s.spin.views.loading

end Sys2Proof.Claims

/-- The pattern and the magnitude follow the spindle state, and are delivered at each edge and at each change of the state, the
duty, the brake drive and the loading view; nothing else changes them (R111). -/
def Sys2Proof.Claims.SpindlePatternFollowsState : Prop :=
  ∀ (s : State), s.held = false →
    (∀ h u, Claims.forward s.spin.hall h ∨ Claims.forward h s.spin.hall →
      ∃ t, exec (.hallStateTaken h u) s = .next t ∧ (t.spin.pattern, t.spin.magnitude) = Claims.deliveredOf t.spin
        ∧ Claims.delivered t)
    ∧ (∀ i t, Claims.spindleRow i = true → exec i s = .next t →
      (Claims.drivenAnew s t → (t.spin.pattern, t.spin.magnitude) = Claims.deliveredOf t.spin ∧ Claims.delivered t)
      ∧ ((t.spin.pattern, t.spin.magnitude) = (s.spin.pattern, s.spin.magnitude)
          ∨ (t.spin.pattern, t.spin.magnitude) = Claims.deliveredOf t.spin ∧ Claims.delivered t))

/-- What each change of the Hall state does to sectors, intervals, turns and the spindle state (R107 to R110, R117, R120 to
R122), and the pattern and magnitude that the spindle state asks for (R111). The model's choices:
that the microsecond count is at the edge time at least (log 7), and that the short-brake pattern comes into force where a brake
drive ends with SP.BRAKE_MODE short (log 64). That a Hall fault ends an open respin request in every state is the model's reading
(log 49). -/
def Obligations.HallStatesCountSectorsAndMarkTurns : Prop :=
  Claims.HallStatesMoveTheSpindle ∧ Claims.SpindlePatternFollowsState

namespace Sys2Proof.Claims

/-- The CLV track of the next target (R113). -/
def clvTrackOf (b : Spin) : Nat :=
  match b.seekTarget with
  | some t => t
  | none => if b.views.valid then b.views.counter else b.clvTrack

/-- A period clamped to SP.P_MIN..SP.P_MAX (R113, R126). -/
def periodIn (p : SpindleParams) (period : Nat) : Nat := if period < p.pMin then p.pMin else min p.pMax period

/-- P_target at a speed update (R113). -/
def targetOf (b : Spin) : Nat :=
  match b.target with
  | none => b.pTarget
  | some (.cav p) => periodIn b.params p
  | some .clv =>
    periodIn b.params
      (((b.params.r0 + (clvTrackOf b * b.params.pitch + 500) / 1000) * b.params.clvC + 32768) / 65536)

/-- P_meas of an update whose sixth interval is iv (R112). -/
def measured (b : Spin) (iv : Nat) : Nat := 4 * ((b.history ++ [iv]).drop (b.history.length + 1 - 6)).sum

/-- e of an update (R114). -/
def speedError (b : Spin) (iv : Nat) : Int := max (-32768) (min 32767 ((measured b iv : Int) - targetOf b))

/-- The loop limited to ±SP.LIMIT (R114). -/
def limited (b : Spin) (v : Int) : Int := max (-(b.params.limit : Int)) (min (b.params.limit : Int) v)

/-- I of an update (R114). -/
def integOf (b : Spin) (iv : Nat) : Int :=
  limited b (b.integ + roundShift (speedError b iv * b.params.ki) b.params.shiftI)

/-- The duty of an update (R114). -/
def dutyOf (b : Spin) (iv : Nat) : Int :=
  limited b (integOf b iv + roundShift (speedError b iv * b.params.kp) b.params.shiftP)

/-- The regulation window of an update (R115). -/
def windowOf (b : Spin) : Nat := targetOf b * b.params.window / 1024

/-- What a speed update leaves (R112 to R114). -/
def updated (s t : State) (iv : Nat) : Prop :=
  t.spin.pMeas = measured s.spin iv ∧ t.spin.pTarget = targetOf s.spin ∧ t.spin.phase = 0
    ∧ (running s.spin.state → t.spin.err = speedError s.spin iv ∧ t.spin.integ = integOf s.spin iv
        ∧ t.spin.duty = dutyOf s.spin iv)
    ∧ (¬ running s.spin.state → t.spin.integ = s.spin.integ ∧ t.spin.duty = s.spin.duty)

end Sys2Proof.Claims

/-- SPEED_UPDATE at the forward edge that brings the update phase to 6 (R112 to R114), REGULATION_ENTRY and REGULATION_EXIT at
the fourth update in or out of the window (R115, R126, R128). No group 3 waits (R129). That the microsecond count is at the
edge time at least is the model's choice (log 7). -/
def Obligations.SpeedUpdateRunsLoopAndWindow : Prop :=
  ∀ (s : State) (h : BitVec 3) (u r iv : Nat), s.held = false → Claims.forward s.spin.hall h →
    s.spin.refTime = some r → iv = Claims.intervalOf u r → s.spin.phase = 5 → s.spin.awaiting = 0 →
    (∃ t, exec (.speedUpdate h u) s = .next t ∧ Claims.onlySpinAt s t (max s.clock u) ∧ .speedUpdate ∈ t.subs
      ∧ Claims.updated s t iv
      ∧ (s.spin.state = .starting → t.spin.state = .slewing)
      ∧ (s.spin.state = .slewing → ¬ ((Claims.speedError s.spin iv).natAbs ≤ Claims.windowOf s.spin) →
          t.spin.state = .slewing ∧ t.spin.inRun = 0)
      ∧ (s.spin.state = .slewing → (Claims.speedError s.spin iv).natAbs ≤ Claims.windowOf s.spin → s.spin.inRun < 3 →
          t.spin.state = .slewing ∧ t.spin.inRun = s.spin.inRun + 1)
      ∧ (s.spin.state = .regulating → 2 * Claims.windowOf s.spin < (Claims.speedError s.spin iv).natAbs →
          s.spin.outRun < 3 → t.spin.state = .regulating ∧ t.spin.outRun = s.spin.outRun + 1)
      ∧ (s.spin.state = .regulating → ¬ (2 * Claims.windowOf s.spin < (Claims.speedError s.spin iv).natAbs) →
          t.spin.state = .regulating ∧ t.spin.outRun = 0))
    ∧ (s.spin.state = .slewing → (Claims.speedError s.spin iv).natAbs ≤ Claims.windowOf s.spin → s.spin.inRun = 3 →
      ∃ t, exec (.regulationEntry h u) s = .next t ∧ Claims.onlySpinAt s t (max s.clock u) ∧ .regulationEntry ∈ t.subs
        ∧ Claims.updated s t iv ∧ t.spin.state = .regulating ∧ t.spin.inRun = 0 ∧ t.spin.outRun = 0 ∧ t.spin.respin = none
        ∧ .neighbourReport (.spindle .regulating) ∈ t.transit
        ∧ (∀ k, s.spin.work = some k → k.isStop = false → t.spin.work = none
            ∧ Claims.done k.tag k.code (if k.clamped then .okClamped else .ok) (Claims.spinValue t.spin) ∈ t.transit)
        ∧ (∀ n, s.spin.respin = some n → .stepReport n .done ∈ t.transit))
    ∧ (s.spin.state = .regulating → 2 * Claims.windowOf s.spin < (Claims.speedError s.spin iv).natAbs →
      s.spin.outRun = 3 →
      ∃ t, exec (.regulationExit h u) s = .next t ∧ Claims.onlySpinAt s t (max s.clock u) ∧ .regulationExit ∈ t.subs
        ∧ Claims.updated s t iv ∧ t.spin.state = .slewing ∧ t.spin.inRun = 0 ∧ t.spin.outRun = 0
        ∧ t.spin.work = s.spin.work ∧ t.spin.respin = s.spin.respin)

namespace Sys2Proof.Claims

/-- A forward pattern with a magnitude above 0 is in force (R119). -/
def motoring (b : Spin) : Prop := (∃ h, b.pattern = .forward h) ∧ 0 < b.magnitude

/-- The current of the set is no overcurrent (R119). -/
def currentFine (b : Spin) (x : SampleSet) : Prop := x.sc ≤ (b.params.ocLimit : Int)

/-- The stall timer does not expire at this set (R117). -/
def noStall (b : Spin) : Prop := ∀ n, b.stallTimer = some n → n + 1 < 25000

/-- The spindle is in FAULT after a stall (R118). -/
def stalled (s t : State) : Prop :=
  t.spin.state = .fault ∧ t.spin.integ = 0 ∧ t.spin.duty = 0 ∧ t.spin.respin = none ∧ t.spin.target = s.spin.target
    ∧ .spindleEnableRequest false ∈ t.transit ∧ .condition .spindleFault ∈ t.transit
    ∧ .neighbourReport (.spindle .fault) ∈ t.transit
    ∧ ∀ k, s.spin.work = some k → k.isStop = false → t.spin.work = none
        ∧ done k.tag k.code .interrupted (Claims.spinValue s.spin) ∈ t.transit

/-- The rows at which an edge may enter REGULATING. -/
def hallRows (h : BitVec 3) (u : Nat) : List Instr := [.hallStateTaken h u, .speedUpdate h u, .regulationEntry h u]

/-- No Hall state that waits came as early as the latest sample instant: none comes together with a set (log 50). -/
def noHallTogether (s : State) : Prop := ∀ h u, ∀ i ∈ hallRows h u, i ∈ s.pending → s.instant < u

end Sys2Proof.Claims

/-- An update that enters REGULATING completes a SPIN in flight OK or OK_CLAMPED where it comes together with the set at which the
command's timer expires, in either order (R107, R126). The set taken first leaves the command to the update that waits; the update
taken first leaves the set no command. Which of them come together is the model's choice (log 50). -/
def Sys2Proof.Claims.RegulationComesBeforeTimeout : Prop :=
  ∀ (s : State) (x : SampleSet) (i : Instr) (rest : List Instr) (h : BitVec 3) (u r iv : Nat) (k : SpinWork), s.held = false →
    Claims.forward s.spin.hall h → s.spin.refTime = some r → iv = Claims.intervalOf u r → s.spin.phase = 5 →
    s.spin.awaiting = 0 → s.spin.state = .slewing → (Claims.speedError s.spin iv).natAbs ≤ Claims.windowOf s.spin →
    s.spin.inRun = 3 → s.spin.work = some k → k.isStop = false → 150000 ≤ k.timer + 1 → Claims.currentFine s.spin x →
    Claims.noStall s.spin → s.spin.stopTimer = none →
    i ∈ Claims.hallRows h u → s.pending = i :: rest → u ≤ s.instant →
    (∃ t v, exec (.spindleSet x) s = .next t ∧ Claims.onlySpin s t ∧ t.spin.work = some k
      ∧ (∃ out, t.transit = s.transit.erase (.spindleSet x) ++ out ∧ ∀ res val, Claims.done k.tag k.code res val ∉ out)
      ∧ exec i t = .next v ∧ v.spin.state = .regulating ∧ v.spin.work = none
      ∧ Claims.done k.tag k.code (if k.clamped then .okClamped else .ok) (Claims.spinValue v.spin) ∈ v.transit)
    ∧ (∃ v w, exec i s = .next v ∧ v.spin.state = .regulating
      ∧ Claims.done k.tag k.code (if k.clamped then .okClamped else .ok) (Claims.spinValue v.spin) ∈ v.transit
      ∧ exec (.spindleSet x) v = .next w ∧ w.spin.work = none)

/-- At a set at which no timer expires and no overcurrent is found, each timer that runs rises by 1 and the state stays (R117,
R121, R122, R126). -/
def Sys2Proof.Claims.SpindleTimersAreCounted : Prop :=
  ∀ (s : State) (x : SampleSet), s.held = false →
    (Claims.running s.spin.state → Claims.motoring s.spin → Claims.currentFine s.spin x) → Claims.noStall s.spin →
    (∀ n, s.spin.stopTimer = some n → n + 1 < 10000) → (∀ n, s.spin.brakeTimer = some n → n + 1 < 2500) →
    (∀ k, s.spin.work = some k → k.isStop = false → k.timer + 1 < 150000) →
    ∃ t, exec (.spindleSet x) s = .next t ∧ Claims.onlySpin s t ∧ t.subs = [] ∧ t.spin.state = s.spin.state
      ∧ t.spin.duty = s.spin.duty ∧ t.spin.integ = s.spin.integ ∧ t.spin.target = s.spin.target
      ∧ (∀ n, Claims.running s.spin.state → s.spin.stallTimer = some n → t.spin.stallTimer = some (n + 1))
      ∧ (∀ n, s.spin.state = .coasting ∨ (s.spin.state = .braking ∧ s.spin.magnitude = 0) → s.spin.stopTimer = some n →
          t.spin.stopTimer = some (n + 1))
      ∧ (∀ n, s.spin.state = .braking → s.spin.brakeTimer = some n → t.spin.brakeTimer = some (n + 1)
          ∧ t.spin.brakeDrive = s.spin.brakeDrive)
      ∧ t.spin.work = s.spin.work.map (fun k => if k.isStop then k else { k with timer := k.timer + 1 })

/-- The sets at which a timer of the Spindle Controller expires, and the overcurrent test (R117 to R119, R121, R122, R126). -/
def Sys2Proof.Claims.SpindleTimersReachTheirEnds : Prop :=
  ∀ (s : State) (x : SampleSet), s.held = false →
    (Claims.running s.spin.state → Claims.motoring s.spin → ¬ Claims.currentFine s.spin x → s.spin.stopTimer = none →
      ∃ t, exec (.spindleSet x) s = .next t ∧ Claims.onlySpin s t ∧ Claims.stalled s t)
    ∧ (∀ n, Claims.running s.spin.state → Claims.currentFine s.spin x → s.spin.stallTimer = some n → n + 1 < 25000 →
      s.spin.stopTimer = none → s.spin.brakeTimer = none → s.spin.brakeDrive = false → s.spin.work = none →
      exec (.spindleSet x) s = .next (Claims.sent s (.spindleSet x) [] []
        { s with spin := { s.spin with stallTimer := some (n + 1) } }))
    ∧ (∀ n, Claims.running s.spin.state → Claims.currentFine s.spin x → s.spin.stallTimer = some n → 25000 ≤ n + 1 →
      s.spin.stopTimer = none →
      (s.spin.state = .starting ∨ 0 < s.spin.duty →
        ∃ t, exec (.stallTimerExpiry x) s = .next t ∧ Claims.onlySpin s t ∧ .stallTimerExpiry ∈ t.subs
          ∧ Claims.stalled s t)
      ∧ (s.spin.state ≠ .starting → s.spin.duty ≤ 0 →
        ∃ t, exec (.stallTimerExpiry x) s = .next t ∧ Claims.onlySpin s t ∧ .stallTimerExpiry ∈ t.subs
          ∧ t.spin.state = .starting ∧ t.spin.integ = 0 ∧ t.spin.duty = 0 ∧ t.spin.inRun = 0 ∧ t.spin.outRun = 0
          ∧ t.spin.target = s.spin.target))
    ∧ (∀ n, s.spin.state = .coasting ∨ s.spin.state = .braking → s.spin.stopTimer = some n → 10000 ≤ n + 1 →
      ∃ t, exec (.stopTimerExpiry x) s = .next t ∧ Claims.onlySpin s t ∧ .stopTimerExpiry ∈ t.subs
        ∧ t.spin.state = .stopped ∧ t.spin.history = [] ∧ t.spin.phase = 0 ∧ t.spin.refTime = none
        ∧ t.spin.stopKind = none ∧ .neighbourReport (.spindle .stopped) ∈ t.transit
        ∧ ∀ k, s.spin.work = some k → k.isStop = true → t.spin.work = none
            ∧ Claims.done k.tag k.code .ok 0 ∈ t.transit)
    ∧ (∀ n, s.spin.state = .braking → s.spin.brakeTimer = some n → 2500 ≤ n + 1 →
      (∀ m, s.spin.stopTimer = some m → m + 1 < 10000) →
      ∃ t, exec (.brakeTimerExpiry x) s = .next t ∧ Claims.onlySpin s t ∧ .brakeTimerExpiry ∈ t.subs
        ∧ t.spin.state = .braking ∧ t.spin.brakeDrive = false ∧ t.spin.brakeTimer = none
        ∧ (s.spin.brakeDrive = true → t.spin.magnitude = 0 ∧ t.spin.stopTimer = some 0
            ∧ (s.spin.params.brakeMode = 1 → t.spin.pattern = .coast)))
    ∧ (∀ k, s.spin.work = some k → k.isStop = false → 150000 ≤ k.timer + 1 → Claims.currentFine s.spin x →
      Claims.noStall s.spin → Claims.noHallTogether s →
      ∃ t, exec (.spinCommandTimeout x) s = .next t ∧ Claims.onlySpin s t ∧ .spinCommandTimeout ∈ t.subs
        ∧ t.spin.work = none ∧ t.spin.target = s.spin.target
        ∧ Claims.done k.tag k.code .timeout (Claims.spinValue s.spin) ∈ t.transit)

/-- At a set: the overcurrent test (R119), the stall timer (R117, R118), the stop timer (R121), the brake timer (R122) and the
timer of a command (R126), each counted until its end and acting there; an update that enters REGULATING at that same time
completes the command instead. That a fault comes before the timer of a command at the same set (log 51), which Hall states come
together with a set (log 50), and that the stall timer of STARTING ends in a stall with SP.LIMIT 0 too (log 63), is the model's
choice. -/
def Obligations.SpindleTimersExpire : Prop :=
  Claims.SpindleTimersReachTheirEnds ∧ Claims.SpindleTimersAreCounted ∧ Claims.RegulationComesBeforeTimeout

namespace Sys2Proof.Claims

/-- BRAKING has been entered (R122): the brake drive is on with SP.BRAKE_MODE reverse, and its timer starts. -/
def brakeEntered (s t : State) : Prop :=
  t.spin.state = .braking ∧ t.spin.stopKind = some .brake
    ∧ (s.spin.params.brakeMode = 1 → t.spin.brakeDrive = true ∧ t.spin.brakeTimer = some 0
        ∧ t.spin.pattern = .reverse t.spin.hall ∧ t.spin.magnitude = t.spin.params.limit)
    ∧ (s.spin.params.brakeMode ≠ 1 → t.spin.brakeDrive = false ∧ t.spin.brakeTimer = none)
    ∧ (s.spin.params.brakeMode = 0 → s.spin.awaiting = 0 → t.spin.pattern = .shortBrake ∧ t.spin.magnitude = 0
        ∧ (s.spin.state ≠ .coasting → t.spin.stopTimer = some 0))

/-- A braking stop has begun, by the table of R122. -/
def brakeStopped (s t : State) : Prop :=
  t.spin.target = none ∧ t.spin.integ = 0 ∧ t.spin.duty = 0
    ∧ (s.spin.state ≠ .stopped → s.spin.state ≠ .fault → s.spin.state ≠ .braking → s.spin.views.enable = true →
        brakeEntered s t)
    ∧ (s.spin.state = .stopped → t.spin.state = .stopped ∧ t.spin.stopKind = none)
    ∧ (s.spin.state = .fault → t.spin.state = .coasting ∧ t.spin.stopKind = some .brake)
    ∧ (s.spin.state ≠ .stopped → s.spin.state ≠ .fault → s.spin.views.enable = false →
        t.spin.state = .coasting ∧ t.spin.stopKind = some .brake)
    ∧ (s.spin.state ≠ .stopped → s.spin.state ≠ .fault → s.spin.views.enable = true →
        t.spin.state = .braking ∧ t.spin.stopKind = some .brake)

/-- A loading stop (R124): a braking stop that interrupts a SPIN CAV or SPIN CLV and drops a respin request. -/
def loadingStopped (s t : State) : Prop :=
  brakeStopped s t ∧ t.spin.respin = none
    ∧ (∀ k, s.spin.work = some k → k.isStop = false → t.spin.work = none
        ∧ done k.tag k.code .interrupted (Claims.spinValue s.spin) ∈ t.transit)
    ∧ (∀ k, s.spin.work = some k → k.isStop = true → t.spin.work = some k)

end Sys2Proof.Claims

/-- The Spindle Controller takes the supply reports (R123), the loading reports and the loading stop (R108, R124), the unload
notice (R108, R110), the enable report (R173), the seek target and the track counter (R113). That a BRAKING entered while a
group waits is entered with the old SP.BRAKE_MODE is the model's choice (log 48). -/
def Obligations.SpindleTakesReports : Prop :=
  ∀ s : State, s.held = false →
    (s.spin.state = .coasting → s.spin.target.isSome = true → s.spin.views.loading = .loaded →
      ∃ t, exec (.supplyStateReport .ok) s = .next t ∧ Claims.onlySpin s t ∧ t.spin.state = .starting
        ∧ t.spin.views.supply = some .ok ∧ (s.spin.views.enable = false → .spindleEnableRequest true ∈ t.transit))
    ∧ (s.spin.state = .coasting → s.spin.target = none → s.spin.stopKind = some .brake →
      ∃ t, exec (.supplyStateReport .ok) s = .next t ∧ Claims.onlySpin s t ∧ t.spin.state = .braking
        ∧ Claims.brakeEntered s t ∧ t.spin.views.supply = some .ok ∧ (s.spin.views.enable = false → .spindleEnableRequest true ∈ t.transit))
    ∧ (s.spin.state ≠ .coasting →
      ∃ t, exec (.supplyStateReport .ok) s = .next t ∧ Claims.onlySpin s t ∧ t.spin.state = s.spin.state
        ∧ t.spin.views.supply = some .ok)
    ∧ (∀ st, st = .dip ∨ st = .low →
      ∃ t, exec (.supplyStateReport st) s = .next t ∧ Claims.onlySpin s t ∧ t.spin.views.supply = some st
        ∧ t.spin.integ = 0 ∧ t.spin.duty = 0 ∧ t.spin.target = s.spin.target ∧ t.spin.stopKind = s.spin.stopKind
        ∧ t.spin.work = s.spin.work
        ∧ (Claims.running s.spin.state ∨ s.spin.state = .braking → t.spin.state = .coasting)
        ∧ (¬ Claims.running s.spin.state → s.spin.state ≠ .braking → t.spin.state = s.spin.state))
    ∧ (∃ t, exec (.loadingStateReport .loaded) s = .next t ∧ Claims.onlySpin s t ∧ t.spin.state = s.spin.state
        ∧ t.spin.views.loading = .loaded
        ∧ Claims.angleReported s t (.loadingStateReport .loaded) False
        ∧ (Claims.validHall s.spin.hall → t.spin.edges = 0 ∧ t.spin.interval = none ∧ t.spin.origin = true)
        ∧ (¬ Claims.validHall s.spin.hall → t.spin.edges = s.spin.edges ∧ t.spin.origin = s.spin.origin))
    ∧ (∀ st, st ≠ .loaded →
      ∃ t, exec (.loadingStateReport st) s = .next t ∧ Claims.onlySpin s t ∧ t.spin.views.loading = st
        ∧ (s.spin.target = none → t.spin.state = s.spin.state ∧ t.spin.work = s.spin.work)
        ∧ (s.spin.target.isSome = true → Claims.loadingStopped s t))
    ∧ (∃ t, exec .loadingStopRequest s = .next t ∧ Claims.onlySpin s t ∧ Claims.loadingStopped s t)
    ∧ (∃ t, exec .unloadNoticeSpindle s = .next t ∧ Claims.onlySpin s t ∧ t.spin.origin = false ∧ t.spin.interval = none
        ∧ t.spin.state = s.spin.state ∧ t.spin.edges = s.spin.edges
        ∧ (s.spin.origin = true → s.spin.interval ≠ none →
            .defectNeighbourReport (.angleValid false) ∈ t.transit ∧ .holdSourceReport (.angleValid false) ∈ t.transit))
    ∧ (∀ on, ∃ t, exec (.spindleEnableReport on) s = .next t ∧ Claims.onlySpin s t ∧ t.spin.state = s.spin.state
        ∧ t.spin.views = { s.spin.views with enable := on })
    ∧ (∀ target, ∃ t, exec (.seekTargetSend target) s = .next t ∧ Claims.onlySpin s t ∧ t.spin.state = s.spin.state
        ∧ t.spin.seekTarget = target)
    ∧ (∀ v ok, ∃ t, exec (.trackCounterReport v ok) s = .next t ∧ Claims.onlySpin s t ∧ t.spin.state = s.spin.state
        ∧ t.spin.views = { s.spin.views with counter := v, valid := ok })

namespace Sys2Proof.Claims

/-- The state after a run target or respin request is taken, by the table of R126. -/
def retaken (s t : State) : Prop :=
  t.spin.stopKind = none
    ∧ (s.spin.state = .starting → t.spin.state = .starting)
    ∧ (s.spin.state = .slewing ∨ s.spin.state = .regulating →
        t.spin.state = .slewing ∧ t.spin.inRun = 0 ∧ t.spin.outRun = 0)
    ∧ (¬ running s.spin.state → s.spin.views.supply = some .ok →
        t.spin.state = .starting ∧ .spindleEnableRequest true ∈ t.transit)
    ∧ (¬ running s.spin.state → s.spin.views.supply ≠ some .ok → t.spin.state = .coasting)

/-- A spindle command is refused: nothing of the spindle's run changes. -/
def spinRefused (s : State) (i : Instr) (c : Posted) (r : Result) (v : Word) : Prop :=
  ∃ u, exec i s = .next ((u.completeNow c r v).retire c) ∧ onlySpin s u ∧ u.spin.state = s.spin.state
    ∧ u.spin.target = s.spin.target ∧ u.spin.work = s.spin.work ∧ u.spin.stopKind = s.spin.stopKind

/-- A run target is taken (R126). -/
def spinTaken (s : State) (i : Instr) (c : Posted) (target : RunTarget) (clamped : Bool) : Prop :=
  ∃ u, exec i s = .next (u.retire c) ∧ onlySpin s u ∧ u.spin.target = some target
    ∧ u.spin.work = some { tag := c.tag, code := c.code, isStop := false, clamped := clamped, timer := 0 }
    ∧ retaken s u
    ∧ ∀ k, s.spin.work = some k →
        done k.tag k.code .superseded (if k.isStop then 0 else (Claims.spinValue s.spin)) ∈ u.transit

end Sys2Proof.Claims

/-- SPIN CAV, SPIN CLV and SPIN STOP (R125 to R127) and the respin request (R128). The values of the refused ones are the
model's reading (log 35), as are the corners where two rules of the spindle states meet (log 24) and the SP.BRAKE_MODE of a
BRAKING entered while a group waits (log 48). -/
def Obligations.SpindleCommandsTargetAndStop : Prop :=
  ∀ (s : State) (c : Posted), s.held = false →
    ∀ (asked period : Nat), asked = 65536 * c.w1.toNat + c.w2.toNat →
      period = Claims.periodIn s.spin.params asked →
    (s.spin.views.loading ≠ .loaded →
      Claims.spinRefused s (.spinCav c) c .noDisc (Claims.spinValue s.spin) ∧ Claims.spinRefused s (.spinClv c) c .noDisc (Claims.spinValue s.spin))
    ∧ (s.spin.views.loading = .loaded → ¬ Claims.validHall s.spin.hall →
      Claims.spinRefused s (.spinCav c) c .notReady (Claims.spinValue s.spin)
        ∧ Claims.spinRefused s (.spinClv c) c .notReady (Claims.spinValue s.spin))
    ∧ (s.spin.views.loading = .loaded → Claims.validHall s.spin.hall →
      Claims.spinTaken s (.spinCav c) c (.cav period) (decide (period ≠ asked))
        ∧ Claims.spinTaken s (.spinClv c) c .clv false)
    ∧ (1 < c.option.toNat → Claims.spinRefused s (.spinStop c) c .badArgument 0)
    ∧ (c.option.toNat ≤ 1 →
      ∃ u, exec (.spinStop c) s = .next (u.retire c) ∧ Claims.onlySpin s u ∧ u.spin.respin = none ∧ u.spin.target = none
        ∧ u.spin.integ = 0 ∧ u.spin.duty = 0
        ∧ (∀ k, s.spin.work = some k →
            Claims.done k.tag k.code .superseded (if k.isStop then 0 else (Claims.spinValue s.spin)) ∈ u.transit)
        ∧ (s.spin.state = .stopped → u.spin.state = .stopped ∧ u.spin.work = none ∧ Claims.doneOf c .ok 0 ∈ u.transit)
        ∧ (s.spin.state ≠ .stopped →
            u.spin.work = some { tag := c.tag, code := c.code, isStop := true, clamped := false, timer := 0 })
        ∧ (c.option = 0 → s.spin.state ≠ .stopped → u.spin.state = .coasting ∧ u.spin.stopKind = some .coast)
        ∧ (c.option = 1 → Claims.brakeStopped s u))
    ∧ (∀ n, s.spin.views.loading ≠ .loaded ∨ ¬ Claims.validHall s.spin.hall →
      ∃ t, exec (.respinRequest n) s = .next t ∧ Claims.onlySpin s t ∧ t.spin.state = s.spin.state ∧ t.spin.respin = none
        ∧ .stepReport n .failed ∈ t.transit)
    ∧ (∀ n, s.spin.views.loading = .loaded → Claims.validHall s.spin.hall →
      (s.spin.target = none ∨ s.spin.state = .regulating →
        ∃ t, exec (.respinRequest n) s = .next t ∧ Claims.onlySpin s t ∧ t.spin.state = s.spin.state
          ∧ t.spin.respin = none ∧ .stepReport n .done ∈ t.transit)
      ∧ (s.spin.target.isSome = true → s.spin.state ≠ .regulating →
        ∃ t, exec (.respinRequest n) s = .next t ∧ Claims.onlySpin s t ∧ Claims.retaken s t
          ∧ t.spin.respin = some n ∧ t.spin.target = s.spin.target))

/-! ## Recovery Controller -/

namespace Sys2Proof.Claims

/-- The earliest entry step among the pending conditions (Table 8-1), for a set that is not empty. -/
def earliest (p : BitVec 8) : Step :=
  if p.getLsbD 0 then .waitQuiet
  else if p.getLsbD 1 then .respin
  else if p.getLsbD 2 || p.getLsbD 3 || p.getLsbD 4 then .refocus
  else .retrack

/-- Step x comes no later than step y in the order of Table 8-2. -/
def noLater (x y : Step) : Bool := decide (Step.order x ≤ Step.order y)

/-- RESPIN has been entered (R141). -/
def enteredRespin (s t : State) : Prop :=
  t.recov.step = some .respin ∧ t.recov.timer = some 0 ∧ t.recov.reqNum = s.recov.reqNum + 1
    ∧ t.recov.reqStep = some .respin ∧ .respinRequest (s.recov.reqNum + 1) ∈ t.transit

/-- The search of REFOCUS has been asked for (R142). -/
def searching (s t : State) : Prop :=
  t.recov.step = some .refocus ∧ t.recov.phase = some .search ∧ t.recov.reqNum = s.recov.reqNum + 1
    ∧ t.recov.reqStep = some .refocus ∧ t.recov.timer = none ∧ .recoverySearch (s.recov.reqNum + 1) ∈ t.transit

/-- RETURN goes on with the counter valid (R145). -/
def returning (s t : State) : Prop :=
  (s.recov.lgp.valid = true → t.recov.step = some .return_ ∧ t.recov.phase = some .seek
      ∧ t.recov.reqNum = s.recov.reqNum + 1 ∧ t.recov.reqStep = some .return_
      ∧ .recoverySeek (s.recov.reqNum + 1) s.recov.lgp.track ∈ t.transit)
    ∧ (s.recov.lgp.valid = false → t.recov.step = some .confirm ∧ t.recov.timer = some 0
        ∧ t.recov.reqNum = s.recov.reqNum)

/-- Step x has been entered (section 8.4). -/
def entered (x : Step) (s t : State) : Prop :=
  t.recov.outcome = none ∧
    match x with
    | .waitQuiet => .recoveryRelease ∈ t.transit
        ∧ (s.recov.views.supply = some .ok → enteredRespin s t)
        ∧ (s.recov.views.supply ≠ some .ok → t.recov.step = some .waitQuiet ∧ t.recov.timer = none
            ∧ t.recov.reqNum = s.recov.reqNum)
    | .respin => enteredRespin s t
    | .refocus =>
        (s.recov.views.shock = false ∨ s.recov.params.quietWait = 0 → searching s t)
        ∧ (s.recov.views.shock = true → s.recov.params.quietWait ≠ 0 → t.recov.step = some .refocus
            ∧ t.recov.phase = some .quietWait ∧ t.recov.timer = some 0 ∧ t.recov.reqNum = s.recov.reqNum)
    | .retrack => t.recov.step = some .retrack ∧ t.recov.reqNum = s.recov.reqNum + 1
        ∧ t.recov.reqStep = some .retrack ∧ .recoveryPullIn (s.recov.reqNum + 1) ∈ t.transit
    | .return_ =>
        (s.recov.views.valid = true → returning s t)
        ∧ (s.recov.views.valid = false → t.recov.step = some .return_ ∧ t.recov.phase = some .refWait
            ∧ t.recov.timer = some 0 ∧ t.recov.waiting = true ∧ t.recov.reqNum = s.recov.reqNum
            ∧ .noticeRaise .referenceNeeded ∈ t.transit ∧ .referenceWaitReport true ∈ t.transit)
    | .confirm => t.recov.step = some .confirm ∧ t.recov.timer = some 0 ∧ t.recov.reqNum = s.recov.reqNum

/-- What a plan never changes: the Last Good Place, the views, the parameters, the last condition. -/
def planFrame (s t : State) : Prop :=
  t.recov.lgp = s.recov.lgp ∧ t.recov.views = s.recov.views ∧ t.recov.params = s.recov.params
    ∧ t.recov.lastCondition = s.recov.lastCondition ∧ t.recov.holdSeen = s.recov.holdSeen

/-- The plan has failed (R138). -/
def planFailed (s t : State) : Prop :=
  t.recov.state = .failed ∧ t.recov.step = none ∧ t.recov.phase = none ∧ t.recov.timer = none ∧ t.recov.outcome = none
    ∧ t.recov.waiting = false ∧ t.recov.attempts = s.recov.attempts ∧ t.recov.lastOutcome = some .failed
    ∧ .recoveryRelease ∈ t.transit ∧ .neighbourReport (.recovery .failed) ∈ t.transit
    ∧ .noticeRaise .recoveryEnd ∈ t.transit
    ∧ (s.recov.waiting = true → .referenceWaitReport false ∈ t.transit)

/-- The plan has restarted at step x, or has failed on its budget (R137). -/
def restarted (x : Step) (s t : State) : Prop :=
  planFrame s t
    ∧ (x ≠ .waitQuiet → s.recov.params.budget < s.recov.attempts + 1 → planFailed s t ∧ t.recov.nested = s.recov.nested)
    ∧ (x = .waitQuiet ∨ s.recov.attempts + 1 ≤ s.recov.params.budget →
        t.recov.state = s.recov.state ∧ .recoveryAbort ∈ t.transit ∧ entered x s t
          ∧ (x = .waitQuiet → t.recov.attempts = s.recov.attempts)
          ∧ (x ≠ .waitQuiet → t.recov.attempts = s.recov.attempts + 1)
          ∧ (s.recov.waiting = true → .referenceWaitReport false ∈ t.transit))

/-- A running plan goes on to step x. -/
def goesOn (x : Step) (s t : State) : Prop :=
  planFrame s t ∧ t.recov.state = s.recov.state ∧ t.recov.attempts = s.recov.attempts ∧ t.recov.nested = s.recov.nested
    ∧ entered x s t

/-- RECOVERY_SET gives t, and only the Recovery Controller works. -/
def setGives (s t : State) : Prop := exec .recoverySet s = .next t ∧ onlyRecov s t

end Sys2Proof.Claims

/-- Step 1 of a set: pending conditions start a plan in IDLE (R133, R134), restart one in ACTIVE (R135, R137), or are
discarded. That a restart that fails on the budget leaves the nested flag as it was is the model's reading (log 26). -/
def Obligations.RecoverySetDecidesPendingSet : Prop :=
  ∀ s : State, s.held = false →
    (s.recov.state ≠ .active → s.recov.conditions = 0 →
      exec .recoverySet s = .next (Claims.sent s .recoverySet [] [] s))
    ∧ (s.recov.state = .failed →
      exec .recoverySet s = .next (Claims.sent s .recoverySet [] [] { s with recov := { s.recov with conditions := 0 } }))
    ∧ (s.recov.state = .idle → s.recov.conditions ≠ 0 →
      s.recov.views.loading ≠ .loaded ∨ s.recov.conditions &&& BitVec.ofNat 8 s.recov.params.mask = 0 →
      exec .recoverySet s = .next (Claims.sent s .recoverySet [.noticeRaise .condition] []
        { s with recov := { s.recov with conditions := 0 } }))
    ∧ (s.recov.state = .idle → s.recov.conditions &&& BitVec.ofNat 8 s.recov.params.mask ≠ 0 →
      s.recov.views.loading = .loaded →
      ∃ t, Claims.setGives s t ∧ Claims.planFrame s t ∧ t.recov.state = .active ∧ t.recov.attempts = 0
        ∧ t.recov.nested = false ∧ t.recov.conditions = 0 ∧ t.recov.lastOutcome = s.recov.lastOutcome
        ∧ .noticeRaise .condition ∈ t.transit ∧ .neighbourReport (.recovery .active) ∈ t.transit
        ∧ .recoveryAbort ∈ t.transit ∧ Claims.entered (Claims.earliest s.recov.conditions) s t)
    ∧ (∀ k, s.recov.state = .active → s.recov.conditions ≠ 0 → s.recov.step = some k →
      (Claims.noLater (Claims.earliest s.recov.conditions) k = true →
        ∃ t, Claims.setGives s t ∧ Claims.restarted (Claims.earliest s.recov.conditions) s t ∧ t.recov.conditions = 0
          ∧ (t.recov.state = .active → t.recov.nested = true))
      ∧ (Claims.noLater (Claims.earliest s.recov.conditions) k = false →
        exec .recoverySet s = exec .recoverySet { s with recov := { s.recov with conditions := 0 } }))

/-- Step 2 of a set: the current step is carried on by its outcome, its view or its timer (R136, R139 to R146). That RETURN goes
on by the reference notice whatever the counter view shows is the model's reading (log 39). That an outcome recorded in QUIET_WAIT is
not acted on there is the model's choice (log 53). -/
def Obligations.RecoverySetCarriesStepOn : Prop :=
  ∀ s : State, s.held = false → s.recov.state = .active → s.recov.conditions = 0 →
    (s.recov.step = some .waitQuiet →
      (s.recov.views.supply = some .ok → ∃ t, Claims.setGives s t ∧ Claims.goesOn .respin s t)
      ∧ (s.recov.views.supply ≠ some .ok → exec .recoverySet s = .next (Claims.sent s .recoverySet [] [] s)))
    ∧ (∀ k next back, (k, next, back) = (Step.respin, Step.refocus, Step.respin)
          ∨ (k, next, back) = (.refocus, .retrack, .refocus) ∧ s.recov.phase = some .search
          ∨ (k, next, back) = (.retrack, .return_, .retrack)
          ∨ (k, next, back) = (.return_, .confirm, .retrack) ∧ s.recov.phase = some .seek →
      s.recov.step = some k →
      (s.recov.outcome = some .done → ∃ t, Claims.setGives s t ∧ Claims.goesOn next s t)
      ∧ (s.recov.outcome = some .failed →
          ∃ t, Claims.setGives s t ∧ Claims.restarted back s t ∧ t.recov.nested = s.recov.nested)
      ∧ (s.recov.outcome = none → k ≠ .respin → exec .recoverySet s = .next (Claims.sent s .recoverySet [] [] s)))
    ∧ (∀ n, s.recov.timer = some n →
        (s.recov.step = some .respin ∧ s.recov.outcome = none ∧ n + 1 < 50 * s.recov.params.respinTimeout
          ∨ s.recov.step = some .refocus ∧ s.recov.phase = some .quietWait ∧ s.recov.views.shock = true
              ∧ n + 1 < 50 * s.recov.params.quietWait
          ∨ s.recov.step = some .return_ ∧ s.recov.phase = some .refWait ∧ s.recov.refTaken = false
              ∧ n + 1 < 50 * s.recov.params.refTimeout
          ∨ s.recov.step = some .confirm ∧ s.recov.views.position = .onTrack ∧ n + 1 < 50 * s.recov.params.confirm) →
      exec .recoverySet s = .next (Claims.sent s .recoverySet [] []
        { s with recov := { s.recov with timer := some (n + 1) } }))
    ∧ (s.recov.step = some .refocus → s.recov.phase = some .quietWait → s.recov.views.shock = false →
      ∃ t, Claims.setGives s t ∧ Claims.planFrame s t ∧ t.recov.state = .active ∧ Claims.searching s t)
    ∧ (s.recov.step = some .return_ → s.recov.phase = some .refWait → s.recov.refTaken = true →
      ∃ t, Claims.setGives s t ∧ Claims.planFrame s t ∧ t.recov.state = .active ∧ Claims.returning s t)
    ∧ (s.recov.step = some .confirm → s.recov.views.position ≠ .onTrack →
      ∃ t, Claims.setGives s t ∧ Claims.restarted .confirm s t ∧ t.recov.nested = s.recov.nested)

/-- The step timers expire: RESPIN fails (R141), the search of REFOCUS is asked for (R142), RETURN fails and restarts at
RETRACK (R144), CONFIRM succeeds (R146). That the timer of QUIET_WAIT acts whatever outcome is recorded there is the model's choice
(log 53). -/
def Obligations.RecoveryStepTimersExpire : Prop :=
  ∀ (s : State) (n : Nat), s.held = false → s.recov.state = .active → s.recov.conditions = 0 →
    s.recov.timer = some n →
    (s.recov.step = some .respin → s.recov.outcome = none → 50 * s.recov.params.respinTimeout ≤ n + 1 →
      ∃ t, exec .respinTimeout s = .next t ∧ Claims.onlyRecov s t ∧ .respinTimeout ∈ t.subs
        ∧ Claims.restarted .respin s t ∧ t.recov.nested = s.recov.nested)
    ∧ (s.recov.step = some .refocus → s.recov.phase = some .quietWait → s.recov.views.shock = true →
      50 * s.recov.params.quietWait ≤ n + 1 →
      ∃ t, exec .quietWaitTimeout s = .next t ∧ Claims.onlyRecov s t ∧ .quietWaitTimeout ∈ t.subs
        ∧ Claims.planFrame s t ∧ t.recov.state = .active ∧ Claims.searching s t)
    ∧ (s.recov.step = some .return_ → s.recov.phase = some .refWait → s.recov.refTaken = false →
      50 * s.recov.params.refTimeout ≤ n + 1 →
      ∃ t, exec .refTimeout s = .next t ∧ Claims.onlyRecov s t ∧ .refTimeout ∈ t.subs
        ∧ Claims.restarted .retrack s t ∧ t.recov.nested = s.recov.nested ∧ t.recov.waiting = false)
    ∧ (s.recov.step = some .confirm → s.recov.views.position = .onTrack → 50 * s.recov.params.confirm ≤ n + 1 →
      ∃ t, exec .confirmTimerExpiry s = .next t ∧ Claims.onlyRecov s t ∧ .confirmTimerExpiry ∈ t.subs
        ∧ Claims.planFrame s t ∧ t.recov.state = .idle ∧ t.recov.step = none ∧ t.recov.timer = none
        ∧ t.recov.lastOutcome = some .done ∧ t.recov.attempts = s.recov.attempts ∧ t.recov.nested = s.recov.nested
        ∧ .neighbourReport (.recovery .idle) ∈ t.transit ∧ .noticeRaise .recoveryEnd ∈ t.transit)

namespace Sys2Proof.Claims

/-- A plan abandoned, FAILED left, the pending set emptied (R147). -/
def abandoned (s t : State) : Prop :=
  t.recov.state = .idle ∧ t.recov.conditions = 0 ∧ t.recov.outcome = none ∧ t.recov.waiting = false
    ∧ t.recov.attempts = s.recov.attempts ∧ t.recov.nested = s.recov.nested ∧ t.recov.reqNum = s.recov.reqNum
    ∧ planFrame s t
    ∧ (s.recov.waiting = true → .referenceWaitReport false ∈ t.transit)
    ∧ (s.recov.state = .active → t.recov.step = none ∧ t.recov.phase = none ∧ t.recov.timer = none
        ∧ t.recov.lastOutcome = some .abandoned ∧ .noticeRaise .recoveryEnd ∈ t.transit)
    ∧ (s.recov.state ≠ .active → t.recov.lastOutcome = s.recov.lastOutcome)
    ∧ (s.recov.state ≠ .idle → .neighbourReport (.recovery .idle) ∈ t.transit)

/-- The Recovery Controller becomes b and sends `out`. -/
def recovTaken (s : State) (i : Instr) (out : List Instr) (b : Rec) : Prop :=
  exec i s = .next (sent s i out [] { s with recov := b })

end Sys2Proof.Claims

/-- A condition joins the pending set (R131), a report counts where it matches (R139), views are kept (R132), the reference
and command notices are taken (R138, R144), and STOP and the abandonment request end a plan (R147). -/
def Sys2Proof.Claims.RecoveryTakesReports : Prop :=
  ∀ s : State, s.held = false →
    (∀ k, ∃ p, p = s.recov.conditions ||| (1#8 <<< Condition.bit k) ∧
      Claims.recovTaken s (.condition k) [.triggerEvent .condition] { s.recov with conditions := p, lastCondition := some k })
    ∧ (∀ n o, (n = s.recov.reqNum → s.recov.state = .active → s.recov.step.isSome = true →
          s.recov.step = s.recov.reqStep → Claims.recovTaken s (.stepReport n o) [] { s.recov with outcome := some o })
        ∧ (n ≠ s.recov.reqNum ∨ s.recov.state ≠ .active ∨ s.recov.step ≠ s.recov.reqStep →
            Claims.recovTaken s (.stepReport n o) [] s.recov))
    ∧ (∀ b, Claims.recovTaken s (.shockReport b) [] { s.recov with views := { s.recov.views with shock := b } })
    ∧ (∀ st, Claims.recovTaken s (.recoveryViewReport (.position st)) []
        { s.recov with views := { s.recov.views with position := st } })
    ∧ (∀ v ok, Claims.recovTaken s (.recoveryViewReport (.counter v ok)) []
        { s.recov with views := { s.recov.views with counter := v, valid := ok } })
    ∧ (∀ st, Claims.recovTaken s (.recoveryViewReport (.supply st)) []
        { s.recov with views := { s.recov.views with supply := some st } })
    ∧ (∀ st, Claims.recovTaken s (.recoveryViewReport (.loading st)) []
        { s.recov with views := { s.recov.views with loading := st } })
    ∧ (∀ st, Claims.recovTaken s (.recoveryViewReport (.spindle st)) [] s.recov)
    ∧ (∀ h, Claims.recovTaken s (.holdSourceReport (.holdSource h)) []
        { s.recov with views := { s.recov.views with held := h }, holdSeen := s.recov.holdSeen || h })
    ∧ (∀ ok, Claims.recovTaken s (.holdSourceReport (.angleValid ok)) []
        { s.recov with views := { s.recov.views with angleValid := ok }, holdSeen := s.recov.holdSeen || !ok })
    ∧ (s.recov.state = .failed →
        Claims.recovTaken s .positionCommandTakenNotice [.neighbourReport (.recovery .idle)]
          { s.recov with state := .idle })
    ∧ (s.recov.state ≠ .failed → Claims.recovTaken s .positionCommandTakenNotice [] s.recov)
    ∧ (s.recov.state = .active → s.recov.phase = some .refWait →
        Claims.recovTaken s .referenceTakenNotice (Claims.onlyIf s.recov.waiting (.referenceWaitReport false))
          { s.recov with waiting := false, refTaken := true })
    ∧ (s.recov.state ≠ .active ∨ s.recov.phase ≠ some .refWait → Claims.recovTaken s .referenceTakenNotice [] s.recov)
    ∧ (∃ t, exec .abandonmentRequest s = .next t ∧ Claims.onlyRecov s t ∧ Claims.abandoned s t)
    ∧ (∀ c, ∃ t, exec (.stop c) s = .next t ∧ Claims.abandoned s t)

namespace Sys2Proof.Claims

/-- The marker finds the spot running cleanly (R148). -/
def clean (b : Rec) : Prop :=
  b.views.position = .onTrack ∧ b.views.valid = true ∧ b.state = .idle ∧ b.conditions = 0 ∧ b.holdSeen = false

end Sys2Proof.Claims

/-- The Last Good Place: updated at a clean revolution marker (R148), shifted by a rebase notice, cleared by the unload notice
(R149). That a rebase out of 0..65535 keeps the old track number is the model's choice (log 52). -/
def Sys2Proof.Claims.LastGoodPlaceFollowsCleanMarkers : Prop :=
  ∀ s : State, s.held = false →
    (∀ rev, Claims.clean s.recov → Claims.recovTaken s (.revolutionMarkerRecovery rev) []
        { s.recov with lgp := { track := s.recov.views.counter, valid := true, stamp := rev },
                       holdSeen := s.recov.views.held })
    ∧ (∀ rev, ¬ Claims.clean s.recov → Claims.recovTaken s (.revolutionMarkerRecovery rev) []
        { s.recov with holdSeen := s.recov.views.held })
    ∧ (∀ delta : Int, s.recov.lgp.valid = true → 0 ≤ s.recov.lgp.track + delta → s.recov.lgp.track + delta ≤ 65535 →
        Claims.recovTaken s (.rebaseLastGoodPlace delta) []
          { s.recov with lgp := { s.recov.lgp with track := (s.recov.lgp.track + delta).toNat } })
    ∧ (∀ delta : Int, s.recov.lgp.valid = true → ¬ (0 ≤ s.recov.lgp.track + delta ∧ s.recov.lgp.track + delta ≤ 65535) →
        Claims.recovTaken s (.rebaseLastGoodPlace delta) [] { s.recov with lgp := { s.recov.lgp with valid := false } })
    ∧ (∀ delta, s.recov.lgp.valid = false → Claims.recovTaken s (.rebaseLastGoodPlace delta) [] s.recov)
    ∧ Claims.recovTaken s .unloadNoticeRecovery [] { s.recov with lgp := { s.recov.lgp with valid := false } }

/-- The Recovery Controller's reports, notices and ends of a plan (R131, R132, R138, R139, R144, R147), and the Last Good
Place: updated at a clean revolution marker (R148), shifted by a rebase notice, cleared by the unload notice (R149). That a
rebase out of 0..65535 keeps the old track number is the model's choice (log 52). -/
def Obligations.RecoveryReportsAndLastGoodPlace : Prop :=
  Claims.RecoveryTakesReports ∧ Claims.LastGoodPlaceFollowsCleanMarkers

/-! ## Loading Controller -/

namespace Sys2Proof.Claims

/-- A debounced switch after a set: its state and its count (R153). -/
def debouncedSwitch (limit : Nat) (raw now : Bool) (count : Nat) : Bool × Nat :=
  if raw = now then (now, 0) else if limit ≤ count + 1 then (raw, 0) else (now, count + 1)

/-- The debounced switches of the set; at the first set since reset, the raw levels (R153, R168). -/
def switchesOf (s : State) : Switches :=
  let n := 50 * s.load.params.debounce
  if s.load.seeded then
    { entry := (debouncedSwitch n s.pins.entry s.load.switches.entry s.load.counts.entry).1,
      centre := (debouncedSwitch n s.pins.centre s.load.switches.centre s.load.counts.centre).1,
      clamp := (debouncedSwitch n s.pins.clamp s.load.switches.clamp s.load.counts.clamp).1,
      home := (debouncedSwitch n s.pins.home s.load.switches.home s.load.counts.home).1 }
  else { entry := s.pins.entry, centre := s.pins.centre, clamp := s.pins.clamp, home := s.pins.home }

/-- The debounce counts after the set. -/
def countsOf (s : State) : Debounce :=
  let n := 50 * s.load.params.debounce
  if s.load.seeded then
    { entry := (debouncedSwitch n s.pins.entry s.load.switches.entry s.load.counts.entry).2,
      centre := (debouncedSwitch n s.pins.centre s.load.switches.centre s.load.counts.centre).2,
      clamp := (debouncedSwitch n s.pins.clamp s.load.switches.clamp s.load.counts.clamp).2,
      home := (debouncedSwitch n s.pins.home s.load.switches.home s.load.counts.home).2 }
  else { entry := 0, centre := 0, clamp := 0, home := 0 }

/-- The motion timer reaches `ms` milliseconds at this set (R155). -/
def motionReaches (s : State) (ms : Nat) : Prop :=
  s.load.enable = true ∧ ∃ n, s.load.motionTimer = some n ∧ 50 * ms ≤ n + 1

/-- ENTRY and CENTRE stay released and the withdrawal timer reaches 200 ms at this set (R157). -/
def withdrawn (s : State) : Prop :=
  (switchesOf s).entry = false ∧ (switchesOf s).centre = false ∧ ∃ n, s.load.withdrawTimer = some n ∧ 10000 ≤ n + 1

/-- State st has been entered: timers, duty, reports, notices and requests (R154, R155, R158, R160 to R163). -/
def enteredLoading (st : LoadingState) (s t : State) : Prop :=
  t.load.state = st ∧ t.load.withdrawTimer = none
    ∧ (t.load.motionTimer =
        if st = .restoring ∨ st = .inserting ∨ st = .clamping ∨ st = .unloadWait ∨ st = .ejecting then some 0 else none)
    ∧ (t.load.presentTimer = if st = .presented ∧ s.load.params.presentTimeout ≠ 0 then some 0 else none)
    ∧ .dutyDelivery (.load (if s.load.spindle = .stopped then
        (if st = .inserting ∨ st = .clamping then (s.load.params.loadDuty : Int)
          else if st = .restoring ∨ st = .ejecting then -(s.load.params.loadDuty : Int) else 0)
        else 0)) ∈ t.transit
    ∧ .neighbourReport (.loading st) ∈ t.transit ∧ .loadingStateReport st ∈ t.transit
    ∧ .recoveryViewReport (.loading st) ∈ t.transit
    ∧ (st = .loaded ∨ st = .presented ∨ st = .empty ∨ st = .jammed → .noticeRaise .loading ∈ t.transit)
    ∧ (st = .jammed → .noticeRaise .discAlert ∈ t.transit)
    ∧ (st = .unloadWait → .loadingParkRequest ∈ t.transit ∧ .loadingStopRequest ∈ t.transit
        ∧ .abandonmentRequest ∈ t.transit)
    ∧ (st = .ejecting → .unloadNoticePosition ∈ t.transit ∧ .unloadNoticeDefect ∈ t.transit
        ∧ .unloadNoticeRecovery ∈ t.transit ∧ .unloadNoticeSpindle ∈ t.transit
        ∧ .defectNeighbourReport (.loading .ejecting) ∈ t.transit)

/-- A set in which st is entered; row i names it, and sub-steps `subs` come about. -/
def movesTo (i : Instr) (s : State) (st : LoadingState) (P : State → Prop) : Prop :=
  ∃ t, exec i s = .next t ∧ onlyLoad s t ∧ t.load.switches = switchesOf s ∧ t.load.counts = countsOf s
    ∧ t.load.seeded = true ∧ enteredLoading st s t ∧ P t

/-- The command in flight ends with a result and value. -/
def ends (s : State) (r : Result) (v : Word) (t : State) : Prop :=
  t.load.work = none
    ∧ ∀ k, s.load.work = some k → done k.tag (if k.isLoad then 0x50 else 0x51) r v ∈ t.transit

/-- The command in flight, if any, stays. -/
def workStays (s t : State) : Prop := t.load.work = s.load.work

/-- LOADING_SET leaves the state; timers count, the motion timer while the enable view is set. -/
def staysIn (s : State) : Prop :=
  ∃ t, exec .loadingSet s = .next t ∧ onlyLoad s t ∧ t.load.switches = switchesOf s ∧ t.load.counts = countsOf s
    ∧ t.load.seeded = true ∧ t.load.state = s.load.state ∧ workStays s t
    ∧ t.load.motionTimer = (if s.load.enable then s.load.motionTimer.map (· + 1) else s.load.motionTimer)
    ∧ t.load.presentTimer = s.load.presentTimer.map (· + 1)
    ∧ (t.load.withdrawTimer =
        if s.load.state = .inserting ∧ (switchesOf s).entry = false ∧ (switchesOf s).centre = false then
          some (match s.load.withdrawTimer with | none => 0 | some n => n + 1)
        else none)

/-- The state that the switches show at start-up (R156). -/
def shown (k : Switches) : LoadingState :=
  match k.clamp, k.home, k.entry with
  | true, _, _ => .loaded
  | false, true, true => .presented
  | false, true, false => .empty
  | false, false, _ => .restoring

end Sys2Proof.Claims

/-- A set debounces the switches, counts the timers and takes at most one exit (R153 to R162); in START_EVAL and RESTORING no
command is in flight, since both refuse there (R165, R166). That a debounce count is 0 after a change is the model's choice
(log 55). -/
def Obligations.LoadingSetDebouncesAndTakesExits : Prop :=
  ∀ s : State, s.held = false → ∀ k, k = Claims.switchesOf s →
    (s.load.seeded = true → k ≠ s.load.switches →
      ∃ t, exec .switchChange s = .next t ∧ exec .loadingSet s = .next t ∧ .switchChange ∈ t.subs
        ∧ t.load.switches = k
        ∧ (s.load.state = .loaded ∨ s.load.state = .unloadWait → k.entry = true → s.load.switches.entry = false →
            .noticeRaise .discAlert ∈ t.transit))
    ∧ (s.load.state = .startEval → s.load.work = none →
      (s.load.spindle = .stopped → Claims.movesTo .startEvaluation s (Claims.shown k) (Claims.workStays s))
      ∧ (s.load.spindle ≠ .stopped → Claims.staysIn s))
    ∧ (s.load.state = .restoring → s.load.work = none →
      (k.home = true → Claims.movesTo .startEvaluation s (Claims.shown k) (Claims.workStays s))
      ∧ (k.home = false → Claims.motionReaches s s.load.params.ejectTimeout →
          Claims.movesTo .motionTimerExpiry s .jammed (Claims.ends s .timeout 9))
      ∧ (k.home = false → ¬ Claims.motionReaches s s.load.params.ejectTimeout → Claims.staysIn s))
    ∧ (s.load.state = .empty →
      (k.entry = true → Claims.movesTo .loadingSet s .inserting (Claims.workStays s))
      ∧ (k.entry = false → Claims.staysIn s))
    ∧ (s.load.state = .inserting →
      (k.centre = true → Claims.movesTo .loadingSet s .clamping (Claims.workStays s))
      ∧ (k.centre = false → Claims.withdrawn s → Claims.movesTo .withdrawalTimeout s .empty (Claims.ends s .noDisc 2))
      ∧ (k.centre = false → ¬ Claims.withdrawn s → Claims.motionReaches s s.load.params.insertTimeout →
          Claims.movesTo .motionTimerExpiry s .ejecting (Claims.ends s .timeout 7))
      ∧ (k.centre = false → ¬ Claims.withdrawn s → ¬ Claims.motionReaches s s.load.params.insertTimeout →
          Claims.staysIn s))
    ∧ (s.load.state = .clamping →
      (k.clamp = true → Claims.movesTo .loadingSet s .loaded (Claims.ends s .ok 5))
      ∧ (k.clamp = false → Claims.motionReaches s s.load.params.clampTimeout →
          Claims.movesTo .motionTimerExpiry s .ejecting (Claims.ends s .timeout 7))
      ∧ (k.clamp = false → ¬ Claims.motionReaches s s.load.params.clampTimeout → Claims.staysIn s))
    ∧ (s.load.state = .unloadWait →
      (s.load.spindle = .stopped → s.pins.sledHome = true →
          Claims.movesTo .unload s .ejecting (Claims.workStays s))
      ∧ (s.load.spindle ≠ .stopped ∨ s.pins.sledHome = false → Claims.motionReaches s 5000 →
          Claims.movesTo .motionTimerExpiry s .jammed (Claims.ends s .timeout 9))
      ∧ (s.load.spindle ≠ .stopped ∨ s.pins.sledHome = false → ¬ Claims.motionReaches s 5000 → Claims.staysIn s))
    ∧ (s.load.state = .ejecting →
      (k.home = true → k.entry = true → Claims.movesTo .loadingSet s .presented (Claims.ends s .ok 8))
      ∧ (k.home = true → k.entry = false → Claims.movesTo .loadingSet s .empty (Claims.ends s .ok 2))
      ∧ (k.home = false → Claims.motionReaches s s.load.params.ejectTimeout →
          Claims.movesTo .motionTimerExpiry s .jammed (Claims.ends s .timeout 9))
      ∧ (k.home = false → ¬ Claims.motionReaches s s.load.params.ejectTimeout → Claims.staysIn s))
    ∧ (s.load.state = .presented →
      (k.entry = false → Claims.movesTo .loadingSet s .empty (Claims.workStays s))
      ∧ (∀ n, k.entry = true → s.load.presentTimer = some n → s.load.params.presentTimeout ≠ 0 →
          50 * s.load.params.presentTimeout ≤ n + 1 →
          Claims.movesTo .presentTimeout s .inserting (Claims.workStays s))
      ∧ (∀ n, k.entry = true → s.load.presentTimer = some n → n + 1 < 50 * s.load.params.presentTimeout →
          Claims.staysIn s)
      ∧ (k.entry = true → s.load.presentTimer = none → Claims.staysIn s))
    ∧ (s.load.state = .loaded ∨ s.load.state = .jammed → Claims.staysIn s)

namespace Sys2Proof.Claims

/-- A loading command is refused with the code of the state. -/
def loadRefused (s : State) (i : Instr) (c : Posted) (r : Result) (v : Word) : Prop :=
  exec i s = .next (((sent s i [] [] s).completeNow c r v).retire c)

/-- A loading command is taken and completed OK at once. -/
def loadDone (s : State) (i : Instr) (c : Posted) (v : Word) : Prop :=
  exec i s = .next ((sent s i [doneOf c .ok v] [] s).retire c)

/-- A loading command is taken without a change of the state. -/
def loadKept (s : State) (i : Instr) (c : Posted) (isLoad : Bool) : Prop :=
  exec i s = .next ((sent s i [] [] { s with load := { s.load with work := some { isLoad := isLoad, tag := c.tag } } }).retire c)

/-- A loading command is taken and state st entered; a LOAD in flight before it is interrupted. -/
def loadMoves (s : State) (i : Instr) (c : Posted) (isLoad : Bool) (st : LoadingState) : Prop :=
  ∃ u, exec i s = .next (u.retire c) ∧ onlyLoad s u ∧ enteredLoading st s u
    ∧ u.load.work = some { isLoad := isLoad, tag := c.tag } ∧ u.load.switches = s.load.switches

/-- A LOAD or an EJECT is in flight. -/
def inFlight (s : State) (isLoad : Bool) : Prop := ∃ k, s.load.work = some k ∧ k.isLoad = isLoad

end Sys2Proof.Claims

/-- LOAD (R165), EJECT (R166) and the reports to the Loading Controller (R154, R163). That an entry or a change of the spindle view
between an apply of group 8 and the next set delivers the new L.LOAD_DUTY is the model's choice (log 58). -/
def Obligations.LoadAndEjectAnswerByState : Prop :=
  ∀ (s : State) (c : Posted), s.held = false →
    (s.load.state = .startEval →
      Claims.loadRefused s (.load c) c .busy 0 ∧ Claims.loadRefused s (.eject c) c .busy 0)
    ∧ (s.load.state = .restoring →
      Claims.loadRefused s (.load c) c .busy 1 ∧ Claims.loadRefused s (.eject c) c .busy 1)
    ∧ (s.load.state = .empty →
      Claims.loadRefused s (.load c) c .noDisc 2 ∧ Claims.loadRefused s (.eject c) c .noDisc 2)
    ∧ (s.load.state = .presented ∨ s.load.state = .jammed → Claims.loadMoves s (.load c) c true .inserting)
    ∧ (∀ v, (s.load.state, v) = (LoadingState.inserting, (3 : Word)) ∨ (s.load.state, v) = (.clamping, 4) →
      (Claims.inFlight s true → Claims.loadRefused s (.load c) c .busy v)
      ∧ (¬ Claims.inFlight s true → Claims.loadKept s (.load c) c true)
      ∧ Claims.loadMoves s (.eject c) c false .ejecting
      ∧ (∀ k u, s.load.work = some k → exec (.eject c) s = .next u →
          Claims.done k.tag (if k.isLoad then 0x50 else 0x51) .interrupted 7 ∈ u.transit))
    ∧ (s.load.state = .loaded →
      Claims.loadDone s (.load c) c 5 ∧ Claims.loadMoves s (.eject c) c false .unloadWait)
    ∧ (∀ v, (s.load.state, v) = (LoadingState.unloadWait, (6 : Word)) ∨ (s.load.state, v) = (.ejecting, 7) →
      Claims.loadRefused s (.load c) c .busy v
      ∧ (Claims.inFlight s false → Claims.loadRefused s (.eject c) c .busy v)
      ∧ (¬ Claims.inFlight s false → Claims.loadKept s (.eject c) c false))
    ∧ (s.load.state = .presented → Claims.loadDone s (.eject c) c 8)
    ∧ (s.load.state = .jammed → Claims.loadMoves s (.eject c) c false .ejecting)
    ∧ (∀ on, exec (.loadingViewReport (.actuatorEnable on)) s =
        .next (Claims.sent s (.loadingViewReport (.actuatorEnable on)) [] [] { s with load := { s.load with enable := on } }))
    ∧ (∀ st, exec (.loadingViewReport (.spindle st)) s =
        .next (Claims.sent s (.loadingViewReport (.spindle st))
          (Claims.onlyIf (decide (st ≠ s.load.spindle))
            (.dutyDelivery (.load (if st = .stopped then motorDir s.load.state * s.load.params.loadDuty else 0)))) []
          { s with load := { s.load with spindle := st } }))

/-! ## Drive Output Unit and Supply Monitor -/

namespace Sys2Proof.Claims

/-- Vm of R170, with V.LOW as the latest refresh put it in force (R178; log 56). -/
def vm (s : State) : Int := max s.drive.sp s.drive.lowUsed

/-- A value scaled by R170, before its clamp. -/
def scaled (s : State) (v : Int) : Int :=
  if s.drive.params.comp = 1 then (v * s.drive.params.nominal + vm s / 2) / vm s else v

/-- An H-bridge channel after its underflow (R169, R170, R178); n is its bit in O.IDLE and O.INVERT. -/
def underflowed (s : State) (n : Nat) (c : Bridge) : Bridge :=
  { buffered := c.buffered,
    applied := if s.drive.actuatorEnable then some (max (-1023) (min 1023 (scaled s c.buffered))) else none,
    short := s.drive.params.idle.testBit n, invert := s.drive.params.invert.testBit n }

/-- High phase and low phase of a forward drive in a Hall state (Table 7-2). -/
def conducting (h : BitVec 3) (hi lo : PhaseName) : Prop :=
  (h, hi, lo) = (1, .u, .v) ∨ (h, hi, lo) = (3, .u, .w) ∨ (h, hi, lo) = (2, .v, .w) ∨ (h, hi, lo) = (6, .v, .u)
    ∨ (h, hi, lo) = (4, .w, .u) ∨ (h, hi, lo) = (5, .w, .v)

/-- The signals of one phase of the SPINDLE channel. -/
def phaseOf (c : SpinDrive) (ph : PhaseName) : PhaseSignals :=
  match ph with
  | .u => c.u
  | .v => c.v
  | .w => c.w

/-- Signal `now` was due in window (lo, hi), the other signal of its phase inactive since `off` counts before the underflow:
it is active from the end of the dead time, if any of the window is left (R172). -/
def dueFrom (dead off lo hi : Nat) (now : Option (Nat × Nat)) : Prop :=
  (max lo (dead - off) < hi → now = some (max lo (dead - off), hi)) ∧ (hi ≤ max lo (dead - off) → now = none)

/-- After an underflow with magnitude m the high phase's high side and the low phase's low side are due, all others inactive. -/
def drives (s t : State) (m : Nat) (hi lo : PhaseName) : Prop :=
  ∀ ph,
    (ph = hi → dueFrom s.spin.params.deadtime (phaseOf s.drive.spindle ph).lowOff (1024 - m) (1024 + m)
        (phaseOf t.drive.spindle ph).high)
    ∧ (ph ≠ hi → (phaseOf t.drive.spindle ph).high = none)
    ∧ (ph = lo → dueFrom s.spin.params.deadtime (phaseOf s.drive.spindle ph).highOff (1024 - m) (1024 + m)
        (phaseOf t.drive.spindle ph).low)
    ∧ (ph ≠ lo → (phaseOf t.drive.spindle ph).low = none)

/-- Counts from the moment at which a signal became inactive to the next underflow: from the end of its window, else a period
more, held at 4096 (R172; that they are held, log 20). -/
def offCounted (now : Option (Nat × Nat)) (before after : Nat) : Prop :=
  (∀ lo hi, now = some (lo, hi) → after = 2048 - hi) ∧ (now = none → after = min 4096 (before + 2048))

/-- The counts that the dead time of the next underflow looks at, for both signals of every phase (R172). -/
def offsCounted (s t : State) : Prop :=
  ∀ ph, offCounted (phaseOf t.drive.spindle ph).high (phaseOf s.drive.spindle ph).highOff
      (phaseOf t.drive.spindle ph).highOff
    ∧ offCounted (phaseOf t.drive.spindle ph).low (phaseOf s.drive.spindle ph).lowOff (phaseOf t.drive.spindle ph).lowOff

/-- The same where the output enable is cleared at count n of the period: a window in force ends there, one that ended before
ended by itself, and one not yet begun leaves its signal inactive for the whole period (R171, R172). -/
def offCleared (n : Nat) (w : Option (Nat × Nat)) (before after : Nat) : Prop :=
  (∀ lo hi, w = some (lo, hi) →
      (n ≤ lo → after = 2048) ∧ (lo < n → hi ≤ n → after = 2048 - hi) ∧ (lo < n → n < hi → after = 2048 - n))
    ∧ (w = none → after = before)

/-- The spindle output enable is cleared, at some count of the period: no event says which, and it is a free value (log 20). -/
def spindleCleared (s t : State) : Prop :=
  t.drive.spindleEnable = false ∧ t.drive.spindle.applied = none ∧ t.drive.spindle.invert = s.drive.spindle.invert
    ∧ ∃ n, n < 2048 ∧ ∀ ph, (phaseOf t.drive.spindle ph).high = none ∧ (phaseOf t.drive.spindle ph).low = none
        ∧ offCleared n (phaseOf s.drive.spindle ph).high (phaseOf s.drive.spindle ph).highOff
            (phaseOf t.drive.spindle ph).highOff
        ∧ offCleared n (phaseOf s.drive.spindle ph).low (phaseOf s.drive.spindle ph).lowOff
            (phaseOf t.drive.spindle ph).lowOff

/-- Only the Drive Output Unit and Supply Monitor has worked, and a clear of the spindle output enable has used up a free value
(log 20). -/
def onlyDriveClears (s t : State) : Prop :=
  t = { s with drive := t.drive, transit := t.transit, subs := t.subs,
               freeCount := if s.drive.spindleEnable then s.freeCount + 1 else s.freeCount }

/-- No signal of the SPINDLE channel is active. -/
def noSignal (t : State) : Prop :=
  ∀ ph, (phaseOf t.drive.spindle ph).high = none ∧ (phaseOf t.drive.spindle ph).low = none

/-- The Drive Output Unit becomes b and sends `out`. -/
def driveTaken (s : State) (i : Instr) (out : List Instr) (b : Drive) : Prop :=
  exec i s = .next (sent s i out [] { s with drive := b })

/-- The channel keeps what is buffered. -/
def keepsBuffered (s t : State) : Prop :=
  t.drive.spindle.pattern = s.drive.spindle.pattern ∧ t.drive.spindle.magnitude = s.drive.spindle.magnitude
    ∧ t.drive.focus = s.drive.focus ∧ t.drive.track = s.drive.track ∧ t.drive.sled = s.drive.sled
    ∧ t.drive.load = s.drive.load ∧ t.drive.actuatorEnable = s.drive.actuatorEnable ∧ t.drive.supply = s.drive.supply

end Sys2Proof.Claims

/-- Deliveries are buffered, and come into force at the channel's underflow, compensated, or idle with the enable cleared
(R169 to R172), with the dead time counted from the moment at which the other signal of the phase became inactive (R172). A
request changes the spindle output enable as the supply allows, and the enable is reported (R171, R173). That a new V.LOW takes
part in Vm from the next refresh is the model's reading of R178 (log 56); at which count of the period an enable is cleared is
a free value (log 20); that a Hall state of 0 or 7 conducts nothing is the model's choice (log 28) and not claimed here. -/
def Sys2Proof.Claims.ChannelsApplyDeliveriesAtUnderflow : Prop :=
  ∀ s : State, s.held = false →
    (∀ v, Claims.driveTaken s (.dutyDelivery (.focus v)) [] { s.drive with focus := { s.drive.focus with buffered := v } }
      ∧ Claims.driveTaken s (.dutyDelivery (.track v)) [] { s.drive with track := { s.drive.track with buffered := v } }
      ∧ Claims.driveTaken s (.dutyDelivery (.sled v)) [] { s.drive with sled := { s.drive.sled with buffered := v } }
      ∧ Claims.driveTaken s (.dutyDelivery (.load v)) [] { s.drive with load := { s.drive.load with buffered := v } })
    ∧ (∀ p m, Claims.driveTaken s (.dutyDelivery (.spindle p m)) []
        { s.drive with spindle := { s.drive.spindle with pattern := p, magnitude := m } })
    ∧ Claims.driveTaken s (.carrierUnderflow .focus) [] { s.drive with focus := Claims.underflowed s 0 s.drive.focus }
    ∧ Claims.driveTaken s (.carrierUnderflow .track) [] { s.drive with track := Claims.underflowed s 1 s.drive.track }
    ∧ Claims.driveTaken s (.carrierUnderflow .sled) [] { s.drive with sled := Claims.underflowed s 2 s.drive.sled }
    ∧ Claims.driveTaken s (.carrierUnderflow .load) [] { s.drive with load := Claims.underflowed s 3 s.drive.load }
    ∧ (∀ m : Nat, s.drive.spindleEnable = true → (m : Int) = max 0 (min 1023 (Claims.scaled s s.drive.spindle.magnitude)) →
      ∃ t, exec (.carrierUnderflow .spindle) s = .next t ∧ Claims.onlyDrive s t ∧ Claims.keepsBuffered s t
        ∧ Claims.offsCounted s t
        ∧ t.drive.spindle.applied = some (s.drive.spindle.pattern, (m : Int))
        ∧ t.drive.spindle.invert = s.drive.params.invert.testBit 4
        ∧ (m = 0 → s.drive.spindle.pattern ≠ .shortBrake → Claims.noSignal t)
        ∧ (s.drive.spindle.pattern = .coast → Claims.noSignal t)
        ∧ (∀ h hi lo, 0 < m → s.drive.spindle.pattern = .forward h → Claims.conducting h hi lo →
            Claims.drives s t m hi lo)
        ∧ (∀ h hi lo, 0 < m → s.drive.spindle.pattern = .reverse h → Claims.conducting h lo hi →
            Claims.drives s t m hi lo)
        ∧ (s.drive.spindle.pattern = .shortBrake → ∀ ph, (Claims.phaseOf t.drive.spindle ph).high = none
            ∧ Claims.dueFrom s.spin.params.deadtime (Claims.phaseOf s.drive.spindle ph).highOff 0 2048
                (Claims.phaseOf t.drive.spindle ph).low))
    ∧ (s.drive.spindleEnable = false →
      ∃ t, exec (.carrierUnderflow .spindle) s = .next t ∧ Claims.onlyDrive s t ∧ Claims.keepsBuffered s t
        ∧ Claims.offsCounted s t ∧ t.drive.spindle.applied = none ∧ Claims.noSignal t)
    ∧ (s.drive.supply = some .ok → Claims.driveTaken s (.spindleEnableRequest true) [.spindleEnableReport true]
        { s.drive with spindleEnable := true })
    ∧ (s.drive.supply ≠ some .ok → Claims.driveTaken s (.spindleEnableRequest true)
        [.spindleEnableReport s.drive.spindleEnable] s.drive)
    ∧ (s.drive.spindleEnable = false →
        Claims.driveTaken s (.spindleEnableRequest false) [.spindleEnableReport false] s.drive)
    ∧ (s.drive.spindleEnable = true →
      ∃ t, exec (.spindleEnableRequest false) s = .next t ∧ Claims.onlyDriveClears s t ∧ Claims.keepsBuffered s t
        ∧ Claims.spindleCleared s t
        ∧ .spindleEnableReport false ∈ t.transit)

/-- The levels of the two signals of an H-bridge channel at each count of the period (R171). -/
def Sys2Proof.Claims.BridgeSignalsFollowAppliedDuty : Prop :=
  ∀ (c : Bridge) (n : Nat), n < 2048 →
    (∀ d, c.applied = some d →
      c.levels n =
        (xor (decide (0 < d ∧ 1024 ≤ n + d.natAbs ∧ n < 1024 + d.natAbs)) c.invert,
         xor (decide (d < 0 ∧ 1024 ≤ n + d.natAbs ∧ n < 1024 + d.natAbs)) c.invert))
    ∧ (c.applied = none → c.levels n = (xor c.short c.invert, xor c.short c.invert))

namespace Sys2Proof.Claims

/-- Count n of the carrier period lies in the window of a signal (R171, R172). -/
def withinWindow (w : Option (Nat × Nat)) (n : Nat) : Prop := ∃ lo hi, w = some (lo, hi) ∧ lo ≤ n ∧ n < hi

/-- A signal is high where it is active, or, with its channel inverted, where it is inactive (R171). -/
def highAt (level invert active : Prop) : Prop := level ↔ (¬ invert ∧ active) ∨ (invert ∧ ¬ active)

/-- The levels of the high and the low pin of phase ph of the SPINDLE channel in s, at count n of the period. -/
def spindlePins (s : State) (ph : PhaseName) (n : Nat) : Bool × Bool :=
  (phaseOf s.drive.spindle ph).levels s.drive.spindle.invert n

/-- Every pin of the five channels is low at every count of the period. -/
def allPinsLow (s : State) : Prop :=
  (∀ c, c = s.drive.focus ∨ c = s.drive.track ∨ c = s.drive.sled ∨ c = s.drive.load → ∀ n, c.levels n = (false, false))
    ∧ ∀ ph n, spindlePins s ph n = (false, false)

end Sys2Proof.Claims

/-- The levels of the six signals of the SPINDLE channel at each count of the period, inverted by O.INVERT bit 4 as the latest
underflow found it (R171, R172). -/
def Sys2Proof.Claims.SpindleSignalsFollowTheirWindows : Prop :=
  ∀ (s : State) (ph : PhaseName) (n : Nat), n < 2048 →
    Claims.highAt ((Claims.spindlePins s ph n).1 = true) (s.drive.spindle.invert = true)
        (Claims.withinWindow (Claims.phaseOf s.drive.spindle ph).high n)
      ∧ Claims.highAt ((Claims.spindlePins s ph n).2 = true) (s.drive.spindle.invert = true)
        (Claims.withinWindow (Claims.phaseOf s.drive.spindle ph).low n)

/-- RESET_ASSERT and POWER_ON_RESET drive every pin of the five channels low, and no underflow comes while RESET is asserted
(R179). -/
def Sys2Proof.Claims.ResetDrivesPinsLow : Prop :=
  ∀ s : State,
    (∃ t, exec .resetAssert s = .next t ∧ t.held = true ∧ Claims.allPinsLow t)
    ∧ (∃ t, exec .powerOnReset s = .next t ∧ Claims.allPinsLow t)
    ∧ (∀ ch, s.held = true → exec (.carrierUnderflow ch) s = .next s)

/-- Deliveries come into force at the channel's underflow, compensated, or idle with the enable cleared (R169 to R173), with the
dead time counted from where the other signal of a phase ended (R172), the levels of the signals of every channel at each count
of the period follow what is applied (R171, R172), and all are low while RESET is asserted (R179). That a new V.LOW takes part
in Vm from the next refresh is the model's reading (log 56); the count at which an enable is cleared is a free value (log 20).
What a Hall state of 0 or 7 conducts (log 28) is not claimed. -/
def Obligations.ChannelsApplyAndBridgesDrive : Prop :=
  Claims.ChannelsApplyDeliveriesAtUnderflow ∧ Claims.BridgeSignalsFollowAppliedDuty
    ∧ Claims.SpindleSignalsFollowTheirWindows ∧ Claims.ResetDrivesPinsLow

namespace Sys2Proof.Claims

/-- DIP has been entered (R176). -/
def dipped (s t : State) : Prop :=
  spindleCleared s t ∧ .noticeRaise .supply ∈ t.transit
    ∧ .spindleEnableReport false ∈ t.transit ∧ .supplyStateReport .dip ∈ t.transit
    ∧ .recoveryViewReport (.supply .dip) ∈ t.transit ∧ t.drive.params = s.drive.params

/-- LOW has been entered (R176). -/
def lowered (s t : State) : Prop :=
  t.drive.supply = some .low ∧ t.drive.ride = none ∧ t.drive.actuatorEnable = false ∧ t.drive.focus.applied = none
    ∧ t.drive.track.applied = none ∧ t.drive.sled.applied = none ∧ t.drive.load.applied = none
    ∧ .loadingViewReport (.actuatorEnable false) ∈ t.transit ∧ .holdSourceRequest .both .supply true ∈ t.transit
    ∧ .condition .supplyLow ∈ t.transit ∧ .supplyStateReport .low ∈ t.transit
    ∧ .recoveryViewReport (.supply .low) ∈ t.transit ∧ t.drive.params = s.drive.params

/-- The supply state has become OK (R175, R177). -/
def supplyOk (s t : State) : Prop :=
  t.drive.supply = some .ok ∧ t.drive.actuatorEnable = true ∧ t.drive.spindleEnable = s.drive.spindleEnable
    ∧ .noticeRaise .supply ∈ t.transit ∧ .supplyStateReport .ok ∈ t.transit ∧ .recoveryViewReport (.supply .ok) ∈ t.transit
    ∧ (s.drive.actuatorEnable = false → .loadingViewReport (.actuatorEnable true) ∈ t.transit)

/-- The timer reaches `ms` milliseconds at this set. -/
def reaches (timer : Option Nat) (ms : Nat) : Prop := ∃ n, timer = some n ∧ 50 * ms ≤ n + 1

/-- SP and V.LOW of the refresh are in force (R174, R178). -/
def refreshed (s t : State) (r : Refresh) : Prop := t.drive.sp = r.sp ∧ t.drive.lowUsed = s.drive.params.low

/-- The restore timer after a refresh at or above V.RESTORE: started at 0 if absent, else counted (R176). -/
def restoreAfter (s : State) : Nat :=
  match s.drive.restore with
  | none => 0
  | some n => n + 1

/-- The restore timer reaches V.RESTORE_TIME at a refresh at or above V.RESTORE (R176, R177). -/
def returnsAt (s : State) : Prop := 50 * s.drive.params.restoreTime ≤ restoreAfter s

/-- SUPPLY_SET gives t, and only the Drive Output Unit and Supply Monitor works. -/
def supplyGives (s : State) (x : SampleSet) (t : State) : Prop :=
  exec (.supplySet x) s = .next t ∧ onlyDrive s t

/-- The same, at a set that clears the spindle output enable. -/
def supplyClears (s : State) (x : SampleSet) (t : State) : Prop :=
  exec (.supplySet x) s = .next t ∧ onlyDriveClears s t

end Sys2Proof.Claims

/-- The Supply Monitor at a set: the first evaluation (R175), the entries to DIP and LOW (R176), the two timers and the return
to OK (R177). That a refresh is evaluated before expired timers act (log 21), that the entry to DIP reports the cleared spindle
enable (log 19), and that V.LOW comes into force for Vm with the refresh (log 56) is the model's reading; the count of the
carrier period at which a DIP clears the enable is a free value (log 20). -/
def Obligations.SupplyMonitorFollowsRail : Prop :=
  ∀ (s : State) (x : SampleSet), s.held = false →
    (x.refresh = none → ¬ Claims.reaches s.drive.ride s.drive.params.ride →
      ¬ Claims.reaches s.drive.restore s.drive.params.restoreTime →
      Claims.driveTaken s (.supplySet x) []
        { s.drive with ride := s.drive.ride.map (· + 1), restore := s.drive.restore.map (· + 1) })
    ∧ (x.refresh = none → Claims.reaches s.drive.restore s.drive.params.restoreTime →
      ∃ t, exec (.restoreTimerExpiry x) s = .next t ∧ Claims.onlyDrive s t ∧ .restoreTimerExpiry ∈ t.subs
        ∧ Claims.supplyOk s t ∧ t.drive.ride = none ∧ t.drive.restore = none)
    ∧ (x.refresh = none → Claims.reaches s.drive.ride s.drive.params.ride →
      ¬ Claims.reaches s.drive.restore s.drive.params.restoreTime →
      ∃ t, exec (.rideTimerExpiry x) s = .next t ∧ Claims.onlyDrive s t ∧ .rideTimerExpiry ∈ t.subs
        ∧ Claims.lowered s t ∧ t.drive.restore = s.drive.restore.map (· + 1))
    ∧ (∀ r, x.refresh = some r → s.drive.ride = none → s.drive.restore = none →
      (s.drive.supply = none → (s.drive.params.restore : Int) ≤ r.sp →
        ∃ t, Claims.supplyGives s x t ∧ Claims.supplyOk s t ∧ Claims.refreshed s t r)
      ∧ (s.drive.supply = none → r.sp < s.drive.params.restore →
        Claims.driveTaken s (.supplySet x)
          [.noticeRaise .supply, .supplyStateReport .low, .recoveryViewReport (.supply .low)]
          { s.drive with sp := r.sp, lowUsed := s.drive.params.low, supply := some .low })
      ∧ (s.drive.supply = some .ok → (s.drive.params.dip : Int) ≤ r.sp → (s.drive.params.low : Int) ≤ r.sp →
        Claims.driveTaken s (.supplySet x) [] { s.drive with sp := r.sp, lowUsed := s.drive.params.low })
      ∧ (s.drive.supply = some .ok → (s.drive.params.low : Int) ≤ r.sp → r.sp < s.drive.params.dip →
        (0 < s.drive.params.ride →
          ∃ t, Claims.supplyClears s x t ∧ Claims.dipped s t ∧ t.drive.supply = some .dip ∧ t.drive.ride = some 0
            ∧ t.drive.actuatorEnable = s.drive.actuatorEnable ∧ Claims.refreshed s t r)
        ∧ (s.drive.params.ride = 0 →
          ∃ t, exec (.rideTimerExpiry x) s = .next t ∧ Claims.onlyDriveClears s t ∧ Claims.dipped s t ∧ Claims.lowered s t
            ∧ Claims.refreshed s t r))
      ∧ (s.drive.supply = some .ok → r.sp < s.drive.params.low →
        ∃ t, Claims.supplyClears s x t ∧ Claims.dipped s t ∧ Claims.lowered s t ∧ Claims.refreshed s t r))
    ∧ (∀ r, x.refresh = some r → s.drive.supply = some .dip → r.sp < s.drive.params.low →
      ∃ t, Claims.supplyGives s x t ∧ Claims.lowered s t ∧ t.drive.restore = none ∧ Claims.refreshed s t r)
    ∧ (∀ r, x.refresh = some r → s.drive.supply = some .dip → (s.drive.params.low : Int) ≤ r.sp →
      r.sp < s.drive.params.restore → ¬ Claims.reaches s.drive.ride s.drive.params.ride →
      Claims.driveTaken s (.supplySet x) []
        { s.drive with sp := r.sp, lowUsed := s.drive.params.low, ride := s.drive.ride.map (· + 1), restore := none })
    ∧ (∀ r, x.refresh = some r → s.drive.supply = some .low → r.sp < s.drive.params.restore →
      ¬ Claims.reaches s.drive.ride s.drive.params.ride →
      Claims.driveTaken s (.supplySet x) []
        { s.drive with sp := r.sp, lowUsed := s.drive.params.low, ride := s.drive.ride.map (· + 1), restore := none })
    ∧ (∀ r, x.refresh = some r → s.drive.supply = some .dip ∨ s.drive.supply = some .low →
      (s.drive.params.low : Int) ≤ r.sp → (s.drive.params.restore : Int) ≤ r.sp →
      (¬ Claims.returnsAt s → ¬ Claims.reaches s.drive.ride s.drive.params.ride →
        Claims.driveTaken s (.supplySet x) []
          { s.drive with sp := r.sp, lowUsed := s.drive.params.low, ride := s.drive.ride.map (· + 1),
                         restore := some (Claims.restoreAfter s) })
      ∧ (Claims.returnsAt s →
        ∃ t, exec (.restoreTimerExpiry x) s = .next t ∧ Claims.onlyDrive s t ∧ .restoreTimerExpiry ∈ t.subs
          ∧ Claims.supplyOk s t ∧ t.drive.ride = none ∧ t.drive.restore = none ∧ Claims.refreshed s t r))
    ∧ (∀ r, x.refresh = some r → s.drive.supply = some .dip → (s.drive.params.low : Int) ≤ r.sp →
      Claims.reaches s.drive.ride s.drive.params.ride →
      (r.sp < s.drive.params.restore →
        ∃ t, exec (.rideTimerExpiry x) s = .next t ∧ Claims.onlyDrive s t ∧ .rideTimerExpiry ∈ t.subs
          ∧ Claims.lowered s t ∧ t.drive.restore = none ∧ Claims.refreshed s t r)
      ∧ ((s.drive.params.restore : Int) ≤ r.sp → ¬ Claims.returnsAt s →
        ∃ t, exec (.rideTimerExpiry x) s = .next t ∧ Claims.onlyDrive s t ∧ .rideTimerExpiry ∈ t.subs
          ∧ Claims.lowered s t ∧ t.drive.restore = some (Claims.restoreAfter s) ∧ Claims.refreshed s t r))

/-! ## Bus Window Unit: write cycles -/

namespace Sys2Proof.Claims

/-- Where the servo area begins (R180). -/
def servoArea (s : State) : Nat := s.bus.area.toNat * 0x10000 + 0xE000

/-- A write cycle has gone on to the SRAM. -/
def passedWrite (s : State) (addr : Nat) (w : Word) (lanes : Lanes) : State :=
  { s with bus := { s.bus with passed := some { addr := addr, write := some w, lanes := lanes } } }

/-- Image m is the image of s with the strobed lanes of word w in the word at the even offset e, every other byte as it
was (R181). -/
def captures (s : State) (e : Nat) (w : Word) (lanes : Lanes) (m : Memory) : Prop :=
  ∀ a, m.read a =
    if a = e ∧ lanes.lo = true then w.lo
    else if a = e + 1 ∧ lanes.hi = true then w.hi
    else s.bus.image.read a

/-- The command posted from slot k by a write of w7 to its word 7 (R181, Table 11-2). -/
def postedBy (s : State) (k : Nat) (w7 : Word) : Posted :=
  { code := s.bus.image.read (16 * k), option := s.bus.image.read (16 * k + 1),
    w1 := s.bus.image.word (16 * k + 2), w2 := s.bus.image.word (16 * k + 4), w3 := s.bus.image.word (16 * k + 6),
    w4 := s.bus.image.word (16 * k + 8), w5 := s.bus.image.word (16 * k + 10), w6 := s.bus.image.word (16 * k + 12),
    tag := w7.lo, urgent := decide (k = 15) }

/-- The state with a completion written (R184). -/
def recorded (c : Posted) (r : Result) (v : Word) (s : State) : State :=
  { s with
    cq := { s.cq with
      ring := s.cq.ring.set s.cq.writeIndex { tag := c.tag, code := c.code, result := r, value := v },
      writeIndex := (s.cq.writeIndex + 1) % 16, count := s.cq.count + 1 },
    transit := s.transit ++ [.noticeRaise .cmdDone] }

/-- The state after the write cycle of word 7 of slot k, before the post is handled. -/
def slotWritten (s : State) (k : Nat) (w7 : Word) (m : Memory) : State :=
  { s with
    bus := { s.bus with
      passed := some { addr := servoArea s + 16 * k + 14, write := some w7, lanes := { lo := true, hi := true } }, image := m },
    subs := [] }

/-- Two lanes. -/
def both : Lanes := { lo := true, hi := true }

/-- The state with command c at the tail of the queue, offered where the queue was empty (R181, R183). -/
def queuedIn (c : Posted) (s : State) : State :=
  { s with cq := { s.cq with queue := s.cq.queue ++ [c] },
           transit := s.transit ++ onlyIf (decide (s.cq.queue = [])) (rowOfPosted c) }

/-- The reports that the APPLY PARAMETERS at the head awaits. -/
def reportsDue (q : CmdQueue) : List GroupPart :=
  match q.applying with
  | none => []
  | some a => a.awaited

/-- RESET SERVO c has been carried out (R186): the commands `left` complete FLUSHED, the queue is empty, every servo block is
handed RESET SERVO, and c completes OK. The reports that the flushed APPLY PARAMETERS awaited are to no command (log 23). -/
def flushedAll (c : Posted) (left : List Posted) (s : State) : State :=
  let t := left.foldl (fun u d => recorded d .flushed 0 u) s
  recorded c .ok 0 { t with
    cq := { t.cq with queue := [], deferred := false, applying := none, stale := s.cq.stale ++ reportsDue s.cq },
    transit := t.transit ++ [.resetServoFrontEnd, .resetServoLoop, .resetServoPosition, .resetServoSpindle,
      .resetServoDefect, .resetServoShock, .resetServoRecovery, .resetServoLoading, .resetServoOutputs,
      .resetServoCapture] }

/-- The events in transit without the offer of the flushed head (log 23). -/
def withdrawnFrom (s : State) (transit : List Instr) : List Instr :=
  match s.cq.queue with
  | [] => transit
  | c :: _ => transit.erase (rowOfPosted c)

end Sys2Proof.Claims

/-- Every write cycle is passed to the SRAM. In the command and staging windows the strobed lanes are captured; elsewhere, and
while RESET is asserted, nothing else happens (R180, R181). The part's own row for a post is the same write cycle. Which
lane lies at the even offset is the model's choice (log 11). -/
def Sys2Proof.Claims.WriteCyclesPassAndAreCaptured : Prop :=
  ∀ (s : State) (addr : Nat) (w : Word) (lanes : Lanes),
    (s.held = true → exec (.windowWrite addr w lanes) s = .next (Claims.passedWrite s addr w lanes))
    ∧ (addr < Claims.servoArea s ∨ Claims.servoArea s + 0x2000 ≤ addr →
        exec (.windowWrite addr w lanes) s = .next (Claims.passedWrite s addr w lanes))
    ∧ (s.held = false → ∀ off, addr = Claims.servoArea s + off → 0x0800 ≤ off → off < 0x2000 →
        exec (.windowWrite addr w lanes) s = .next { Claims.passedWrite s addr w lanes with subs := [] })
    ∧ (s.held = false → s.bus.image.wf = true → ∀ off, addr = Claims.servoArea s + off → off < 0x0800 →
        ¬(off < 0x0100 ∧ off / 2 % 8 = 7 ∧ lanes.lo = true ∧ lanes.hi = true) →
        ∃ m, Claims.captures s (off / 2 * 2) w lanes m
          ∧ exec (.windowWrite addr w lanes) s = .next { s with
              bus := { s.bus with passed := some { addr := addr, write := some w, lanes := lanes }, image := m },
              subs := [] })
    ∧ (∀ k : Fin 15, exec (.commandPost k w) s = exec (.windowWrite (Claims.servoArea s + 16 * k.val + 14) w Claims.both) s)
    ∧ exec (.urgentPost w) s = exec (.windowWrite (Claims.servoArea s + 16 * 15 + 14) w Claims.both) s

/-- A write of both lanes of word 7 posts the slot: slots 0 to 14 join the queue, or are answered QUEUE_FULL where it holds 8;
slot 15 is handled at once, STOP, SET TRACK REFERENCE and RESET SERVO by their owners, any other code WRONG_SLOT (R181, R182,
R183, R186). That a flush takes the offer of the head out of transit, and how reports to a flushed command are told, is the model's
choice (log 23). -/
def Sys2Proof.Claims.PostsJoinTheQueueOrAreHandledAtOnce : Prop :=
  ∀ (s : State) (w7 : Word), s.held = false → s.bus.image.wf = true →
    (∀ k : Fin 15, ∃ m, Claims.captures s (16 * k.val + 14) w7 Claims.both m
      ∧ (s.cq.queue.length < 8 →
          exec (.commandPost k w7) s =
            .next (Claims.queuedIn (Claims.postedBy s k.val w7) (Claims.slotWritten s k.val w7 m)))
      ∧ (8 ≤ s.cq.queue.length →
          exec (.commandPost k w7) s =
            .next (Claims.recorded (Claims.postedBy s k.val w7) .queueFull 0 (Claims.slotWritten s k.val w7 m))))
    ∧ (∃ m, Claims.captures s 254 w7 Claims.both m
      ∧ ((Claims.postedBy s 15 w7).code = 0x28 →
          exec (.urgentPost w7) s = exec (.stop (Claims.postedBy s 15 w7)) (Claims.slotWritten s 15 w7 m))
      ∧ ((Claims.postedBy s 15 w7).code = 0x26 →
          exec (.urgentPost w7) s = exec (.setTrackReference (Claims.postedBy s 15 w7)) (Claims.slotWritten s 15 w7 m))
      ∧ ((Claims.postedBy s 15 w7).code = 0x70 → s.cq.queue.head? ≠ some (Claims.postedBy s 15 w7) →
          exec (.urgentPost w7) s = .next (Claims.flushedAll (Claims.postedBy s 15 w7) s.cq.queue
            { Claims.slotWritten s 15 w7 m with transit := Claims.withdrawnFrom s s.transit }))
      ∧ ((Claims.postedBy s 15 w7).code ≠ 0x28 → (Claims.postedBy s 15 w7).code ≠ 0x26 →
          (Claims.postedBy s 15 w7).code ≠ 0x70 →
          exec (.urgentPost w7) s =
            .next (Claims.recorded (Claims.postedBy s 15 w7) .wrongSlot 0 (Claims.slotWritten s 15 w7 m))))

/-- Every write cycle is passed to the SRAM and, in the command and staging windows, captured by strobed lanes (R180, R181); a
write of both lanes of word 7 posts the slot to the queue or, slot 15, is handled at once (R181 to R183, R186). Which lane
lies at the even offset (log 11) and what a flush takes out of transit (log 23) are the model's choice. -/
def Obligations.WriteCyclesCaptureAndPost : Prop :=
  Claims.WriteCyclesPassAndAreCaptured ∧ Claims.PostsJoinTheQueueOrAreHandledAtOnce

/-! ## Command Queue -/

namespace Sys2Proof.Claims

/-- The head has left the queue, and the next command is offered (R183). -/
def nextOffered (rest : List Posted) (s : State) : State :=
  { s with cq := { s.cq with queue := rest, deferred := false, applying := none },
           transit := s.transit ++ (match rest with | [] => [] | d :: _ => [rowOfPosted d]) }

/-- The owners that a group is handed to (R185, Table 11-7). -/
def ownersOf (g : Fin 10) : List (GroupPart × Instr) :=
  match g with
  | 0 => [(.focus, .loopGroupApply .focus)]
  | 1 => [(.track, .loopGroupApply .track)]
  | 2 => [(.sled, .loopGroupApply .sled)]
  | 3 => [(.spindle, .spindleGroupApply)]
  | 4 => [(.defect, .defectGroupApply)]
  | 5 => [(.shock, .shockGroupApply)]
  | 6 => [(.position, .positionGroupApply), (.recovery, .recoveryGroupApply)]
  | 7 => [(.supply, .supplyGroupApply)]
  | 8 => [(.loading, .loadingGroupApply), (.notice, .noticeGroupApply), (.capture, .captureGroupApply)]
  | 9 => [(.temperature, .temperatureGroupApply)]

/-- The groups of a mask, in group order. -/
def groupsOf (mask : Word) : List (Fin 10) :=
  [0, 1, 2, 3, 4, 5, 6, 7, 8, 9].filter (fun g => mask.getLsbD g.val)

end Sys2Proof.Claims

/-- The Command Queue writes completions in the order they come (R184), answers NOP and unlisted codes itself, offers a deferred
head again (R183), and takes a group's report, completing APPLY PARAMETERS with the sum at the last (R185). A report to one that
RESET SERVO flushed counts for no later one (R186); that the first reports of a part are to the flushed one is the model's
choice (log 23). -/
def Obligations.QueueRecordsAnswersAndOffers : Prop :=
  ∀ s : State, s.held = false →
    (∀ r : CompletionRec,
      exec (.completion r) s = .next { s with
        cq := { s.cq with ring := s.cq.ring.set s.cq.writeIndex r, writeIndex := (s.cq.writeIndex + 1) % 16,
                          count := s.cq.count + 1 },
        transit := s.transit.erase (.completion r) ++ [.noticeRaise .cmdDone], subs := [] })
    ∧ (∀ c rest, s.cq.queue = c :: rest →
        exec (.nop c) s = .next (Claims.nextOffered rest (Claims.recorded c .ok 0 (s.take (.nop c))))
        ∧ exec (.unknownCommand c) s =
            .next (Claims.nextOffered rest (Claims.recorded c .unknownCommand 0 (s.take (.unknownCommand c)))))
    ∧ (s.cq.deferred = false → exec .deferredHeadOffer s = .next (s.take .deferredHeadOffer))
    ∧ (∀ c rest, s.cq.queue = c :: rest → s.cq.deferred = true →
        exec .deferredHeadOffer s = .next { s with
          cq := { s.cq with deferred := false },
          transit := s.transit.erase .deferredHeadOffer ++ [rowOfPosted c], subs := [] })
    ∧ (∀ g n, g ∈ s.cq.stale →
        exec (.groupAppliedReport g n) s = .next { s with
          cq := { s.cq with stale := s.cq.stale.erase g },
          transit := s.transit.erase (.groupAppliedReport g n), subs := [] })
    ∧ (∀ g n, g ∉ s.cq.stale → (∀ a, s.cq.applying = some a → g ∉ a.awaited) →
        exec (.groupAppliedReport g n) s = .next (s.take (.groupAppliedReport g n)))
    ∧ (∀ g n a, g ∉ s.cq.stale → s.cq.applying = some a → g ∈ a.awaited → a.awaited.erase g ≠ [] →
        exec (.groupAppliedReport g n) s = .next { s with
          cq := { s.cq with applying := some { awaited := a.awaited.erase g, sum := a.sum + n } },
          transit := s.transit.erase (.groupAppliedReport g n), subs := [] })
    ∧ (∀ g n a c rest, g ∉ s.cq.stale → s.cq.applying = some a → a.awaited = [g] → s.cq.queue = c :: rest →
        exec (.groupAppliedReport g n) s = .next (Claims.nextOffered rest
          (Claims.recorded c (if a.sum + n = 0 then .ok else .okClamped) (BitVec.ofNat 16 (a.sum + n))
            (s.take (.groupAppliedReport g n)))))

/-- APPLY PARAMETERS at the head of the queue: a mask with bits 10 to 15 is refused, a mask of 0 completes, any other hands its
groups to their owners and stays at the head (R185). RESET SERVO at the head flushes the commands behind it and is handed to
every servo block (R186). What a flush takes out of transit, and the reports it leaves to no command, are the model's choice
(log 23). -/
def Obligations.ApplyParametersAndResetServo : Prop :=
  ∀ (s : State) (c : Posted) (rest : List Posted), s.held = false → s.cq.queue = c :: rest →
    (s.cq.applying = none →
      (1024 ≤ c.w1.toNat →
        exec (.applyParameters c) s =
          .next (Claims.nextOffered rest (Claims.recorded c .badArgument 0 (s.take (.applyParameters c)))))
      ∧ (c.w1 = 0 →
        exec (.applyParameters c) s =
          .next (Claims.nextOffered rest (Claims.recorded c .ok 0 (s.take (.applyParameters c)))))
      ∧ (c.w1.toNat < 1024 → c.w1 ≠ 0 →
        exec (.applyParameters c) s = .next { s with
          cq := { s.cq with
            applying := some { awaited := ((Claims.groupsOf c.w1).flatMap Claims.ownersOf).map Prod.fst, sum := 0 } },
          transit := s.transit.erase (.applyParameters c) ++ ((Claims.groupsOf c.w1).flatMap Claims.ownersOf).map Prod.snd,
          subs := [] }))
    ∧ exec (.resetServo c) s = .next (Claims.flushedAll c rest { s with
        transit := Claims.withdrawnFrom s (s.transit.erase (.resetServo c)), subs := [] })

/-! ## Bus Window Unit: read cycles and notices -/

namespace Sys2Proof.Claims

/-- A read of the servo area at offset off is answered with w in state s. -/
def shows1 (s : State) (off : Nat) (w : Word) : Prop :=
  ∀ lanes, ∃ t, exec (.snapshotRead (servoArea s + off) lanes) s = .next t ∧ t.bus.answer = some (w, lanes)

/-- The words from offset off on read ws. -/
def shows (s : State) (off : Nat) (ws : List Word) : Prop :=
  ∀ j w, ws[j]? = some w → shows1 s (off + 2 * j) w

/-- A count as a word. -/
def nat16 (n : Nat) : Word := BitVec.ofNat 16 n

/-- A signed quantity as a word. -/
def int16 (v : Int) : Word := BitVec.ofInt 16 v

/-- A flag as a word. -/
def flag16 (p : Bool) : Word := if p then 1 else 0

/-- An item as a word, 0 where it is absent. -/
def opt16 {α : Type} (f : α → Nat) (o : Option α) : Word :=
  match o with
  | none => 0
  | some x => nat16 (f x)

/-- A signed quantity of 32 bits, high half first. -/
def int32 (v : Int) : List Word := [(BitVec.ofInt 32 v).extractLsb' 16 16, (BitVec.ofInt 32 v).extractLsb' 0 16]

/-- An applied duty, 0x8000 where the channel is idle. -/
def applied16 (d : Option Int) : Word :=
  match d with
  | none => 0x8000
  | some v => int16 v

/-- An item's code in a table that begins at 1, 0 for none (R187). -/
def placeOr0 {α : Type} [DecidableEq α] (table : List α) (o : Option α) : Word :=
  match o with
  | none => 0
  | some x => nat16 (1 + place table x)

/-- Loop states, in the order of Table 2-2. -/
def loopTable : List LoopState := [.off, .opened, .closed, .hold]

/-- Position states, in the order of the codes of R191. -/
def positionTable : List PositionState :=
  [.idle, .focusSearch, .focusLocking, .focused, .trackPullin, .onTrack, .jumping, .seeking, .seekBrake, .settling, .parking]

/-- Spindle states, in the order of Table 7-3. -/
def spindleTable : List SpindleState := [.stopped, .starting, .slewing, .regulating, .braking, .coasting, .fault]

/-- Capture states, in the order of Table 12-1. -/
def captureTable : List CaptureState := [.idle, .armed, .triggerPending, .triggered, .done]

/-- Supply states, from code 1 on. -/
def supplyTable : List SupplyState := [.ok, .dip, .low]

/-- Recovery states. -/
def recoveryTable : List RecoveryState := [.idle, .active, .failed]

/-- Detector states. -/
def detectorTable : List Detector := [.inactive, .clear, .opened]

/-- Kinds of work, from code 1 on. -/
def workTable : List WorkKind := [.focusSearch, .trackPullIn, .park, .jump, .seek]

/-- Motion phases, from code 1 on; `landing` is CATCH. -/
def phaseTable : List Phase := [.kick, .brake, .run, .sledBrake, .landing, .settle]

/-- Recovery steps, from code 1 on, in the order of Table 8-2. -/
def stepTable : List Step := [.waitQuiet, .respin, .refocus, .retrack, .return_, .confirm]

/-- Step phases, from code 1 on. -/
def stepPhaseTable : List StepPhase := [.quietWait, .search, .refWait, .seek]

/-- Outcomes of a plan, from code 1 on. -/
def outcomeTable : List PlanOutcome := [.done, .failed, .abandoned]

/-- Conditions, in the order of their R.MASK bits (Table 8-1). -/
def conditionTable : List Condition :=
  [.supplyLow, .spindleFault, .focusLost, .holdTimeout, .focusLimit, .trackSlip, .trackLimit, .seekFailed]

/-- Results, in the order of their codes (Table 11-4). -/
def resultTable : List Result :=
  [.ok, .okClamped, .busy, .notReady, .badArgument, .unknownCommand, .queueFull, .superseded, .interrupted, .timeout,
   .notFound, .seekFailed, .flushed, .noDisc, .wrongSlot]

/-- The code of a spindle pattern. -/
def patternWord (p : Pattern) : Word :=
  match p with
  | .coast => 0
  | .shortBrake => 1
  | .forward _ => 2
  | .reverse _ => 3

/-- The code of the origin of work. -/
def originWord (o : Origin) : Word :=
  match o with
  | .none => 0
  | .command _ _ => 1
  | .recovery _ => 2
  | .loading => 3

/-- A read cycle has gone on to the SRAM. -/
def passedRead (s : State) (addr : Nat) (lanes : Lanes) : State :=
  { s with bus := { s.bus with passed := some { addr := addr, write := none, lanes := lanes } } }

/-- The part has answered a read with w; the snapshot becomes k. -/
def answeredRead (s : State) (w : Word) (lanes : Lanes) (k : Option Snapshot) : State :=
  { s with bus := { s.bus with answer := some (w, lanes), snapshot := k }, subs := [] }

/-- The snapshot groups: base and number of words (R188, Table 11-6). -/
def isGroup (base n : Nat) : Prop :=
  (∃ k, k < 16 ∧ base = 0x0810 + 8 * k ∧ n = 4) ∨ (base = 0x08C0 ∧ n = 9) ∨ (base = 0x08E0 ∧ n = 9)
    ∨ (base = 0x0950 ∧ n = 9) ∨ (∃ k, k < 32 ∧ base = 0x0A00 + 10 * k ∧ n = 5) ∨ (base = 0x0B78 ∧ n = 3)

end Sys2Proof.Claims

/-- Reads outside the status and capture windows, and all reads while RESET is asserted, pass to the SRAM; in the two windows
the part answers; a snapshot group is frozen by its first word and released by its last (R180, R187, R188, R194). -/
def Obligations.ReadsAnswerAndFreezeSnapshots : Prop :=
  ∀ (s : State) (addr : Nat) (lanes : Lanes),
    (s.held = true → exec (.snapshotRead addr lanes) s = .next (Claims.passedRead s addr lanes))
    ∧ (addr < Claims.servoArea s + 0x0800 ∨ Claims.servoArea s + 0x2000 ≤ addr →
        exec (.snapshotRead addr lanes) s = .next (Claims.passedRead s addr lanes))
    ∧ (s.held = false → ∀ i j, i < 256 → j < 8 → addr / 2 * 2 = Claims.servoArea s + 0x1000 + 16 * i + 2 * j →
        exec (.snapshotRead addr lanes) s =
          .next (Claims.answeredRead s (s.cap.buffer.word (0x1000 + 16 * i + 2 * j)) lanes s.bus.snapshot))
    ∧ (s.held = false → ∀ base n, Claims.isGroup base n →
        (addr = Claims.servoArea s + base →
          exec (.snapshotRead addr lanes) s = .next (Claims.answeredRead s (s.statusWord base) lanes
            (some { base := base, words := (List.range (n - 1)).map (fun j => s.statusWord (base + 2 * (j + 1))) })))
        ∧ (∀ j k, 0 < j → j < n → addr = Claims.servoArea s + base + 2 * j → s.bus.snapshot = some k → k.base = base →
          exec (.snapshotRead addr lanes) s = .next (Claims.answeredRead s (k.words.getD (j - 1) 0) lanes
            (if j + 1 = n then none else some k)))
        ∧ (∀ j, 0 < j → j < n → addr = Claims.servoArea s + base + 2 * j → (∀ k, s.bus.snapshot = some k → k.base ≠ base) →
          exec (.snapshotRead addr lanes) s =
            .next (Claims.answeredRead s (s.statusWord (base + 2 * j)) lanes s.bus.snapshot)))
    ∧ (s.held = false → ∀ off, off % 2 = 0 → 0x0800 ≤ off → off < 0x1000 → off ≠ 0x0804 →
        (∀ base n, Claims.isGroup base n → off < base ∨ base + 2 * n ≤ off) → addr = Claims.servoArea s + off →
        exec (.snapshotRead addr lanes) s = .next (Claims.answeredRead s (s.statusWord off) lanes s.bus.snapshot))

/-- With no snapshot held, the status mirror shows the blocks as they stand, word by word as Table 11-6 lists them, with the
codes of R187. What an absent item shows where the spec gives no code, the order of buffered and applied duty, and the unit
of the motion timer are the model's choice (log 12, log 13). -/
def Obligations.StatusMirrorShowsTheBlocks : Prop :=
  ∀ s : State, s.held = false → s.bus.snapshot = none →
    Claims.shows s 0x0800 [0x0582, 1, s.bus.notice, Claims.nat16 s.cq.writeIndex, s.cq.count,
      (match s.cq.queue with | [] => 0 | c :: _ => c.code) ++ BitVec.ofNat 8 s.cq.queue.length]
    ∧ (∀ k r, k < 16 → s.cq.ring[k]? = some r →
        Claims.shows s (0x0810 + 8 * k) [r.tag.setWidth 16, r.code.setWidth 16,
          Claims.nat16 (Claims.place Claims.resultTable r.result), r.value])
    ∧ Claims.shows s 0x0890 [s.fe.stamp, Claims.int16 s.fe.feOffset, Claims.int16 s.fe.teOffset, Claims.int16 s.fe.shOffset,
        Claims.int16 s.fe.sp, Claims.int16 s.fe.tm, Claims.nat16 s.loop.band, Claims.flag16 s.fe.laser,
        Claims.flag16 s.fe.laserOutput, Claims.flag16 s.fe.calibration.isSome]
    ∧ (∀ l base, l = s.loop.focus ∧ base = 0x08C0 ∨ l = s.loop.track ∧ base = 0x08E0 →
        Claims.shows s base [Claims.nat16 (Claims.place Claims.loopTable l.state),
          Claims.flag16 (decide (l.gainUse = .shock)),
          Claims.nat16 (l.holds.defect.toNat + 2 * l.holds.predict.toNat + 4 * l.holds.supply.toNat), Claims.int16 l.last,
          Claims.nat16 l.holdCount, Claims.nat16 l.limitCount, Claims.nat16 l.eventCount, Claims.nat16 l.lastEvent,
          Claims.flag16 l.lock])
    ∧ Claims.shows s 0x08F8 [Claims.int16 s.loop.sled.lastDuty]
    ∧ Claims.shows s 0x0900 [Claims.nat16 (Claims.place Claims.positionTable s.pos.state),
        Claims.placeOr0 Claims.workTable (s.pos.work.map Work.kind),
        (match s.pos.work with | none => 0 | some k => Claims.originWord k.origin),
        (match s.pos.work with | some { kind := _, origin := .command tag _ } => tag.setWidth 16 | _ => 0),
        Claims.opt16 (fun r => r.sweeps) s.pos.search, Claims.nat16 s.pos.counter, Claims.flag16 s.pos.valid,
        Claims.flag16 s.pos.mirror, (match s.pos.lastDir with | none => 0 | some d => Claims.int16 d),
        Claims.placeOr0 Claims.phaseTable (s.pos.motion.map Motion.phase)]
    ∧ (s.pos.motion = none → Claims.shows s 0x0914 [0, 0, 0, 0, Claims.flag16 s.recov.waiting])
    ∧ (∀ m, s.pos.motion = some m → m.isSeek = true →
        Claims.shows s 0x0914 ([Claims.nat16 m.seekTarget, Claims.nat16 m.corrections]
          ++ Claims.int32 (m.dir * ((m.seekTarget : Int) - s.pos.counter)) ++ [Claims.flag16 s.recov.waiting]))
    ∧ (∀ m, s.pos.motion = some m → m.isSeek = false →
        Claims.shows s 0x0914 [0, Claims.nat16 m.corrections, 0, 0, Claims.flag16 s.recov.waiting])
    ∧ Claims.shows s 0x0940 [Claims.nat16 (Claims.place Claims.spindleTable s.spin.state), s.spin.hall.setWidth 16,
        Claims.nat16 s.spin.edges, Claims.flag16 s.spin.origin,
        Claims.flag16 (s.spin.origin && s.spin.interval.isSome), s.spin.rev, Claims.patternWord s.spin.pattern,
        Claims.int16 s.spin.magnitude]
    ∧ Claims.shows s 0x0950 (Claims.int32 s.spin.pMeas ++ Claims.int32 s.spin.pTarget
        ++ Claims.int32 (match s.spin.interval with | none => 0 | some n => (n : Int))
        ++ [Claims.int16 s.spin.integ, Claims.int16 s.spin.duty, Claims.int16 s.spin.err])
    ∧ Claims.shows s 0x0980 [Claims.nat16 (Claims.place Claims.detectorTable s.defect.det),
        Claims.int16 (s.defect.baseline / 16), Claims.int16 s.defect.depth, Claims.nat16 s.defect.count,
        Claims.nat16 s.defect.map.length]
    ∧ (s.defect.window = none → Claims.shows s 0x098A [0xFFFF])
    ∧ (∀ v e before after, s.defect.window = some v → s.defect.map = before ++ e :: after → Claims.windowAt v e →
        (∀ y ∈ before, ¬ Claims.windowAt v y) → Claims.shows s 0x098A [Claims.nat16 before.length])
    ∧ (∀ k e, k < 32 → s.defect.map[k]? = some e → Claims.shows s (0x0A00 + 10 * k)
        [Claims.nat16 e.track, Claims.nat16 e.start, Claims.nat16 e.len, Claims.nat16 e.hits, e.stamp])
    ∧ (∀ k, k < 32 → s.defect.map.length ≤ k → Claims.shows s (0x0A00 + 10 * k) [0, 0, 0, 0, 0])
    ∧ Claims.shows s 0x0B40 [Claims.flag16 s.shock.shock, Claims.nat16 s.shock.count, Claims.int16 s.shock.shc,
        Claims.nat16 s.shock.quietCount, Claims.int16 s.shock.ffFocus, Claims.int16 s.shock.ffTrack]
    ∧ Claims.shows s 0x0B60 [Claims.nat16 (Claims.place Claims.recoveryTable s.recov.state),
        Claims.placeOr0 Claims.stepTable s.recov.step, Claims.placeOr0 Claims.stepPhaseTable s.recov.phase,
        Claims.nat16 s.recov.attempts, Claims.flag16 s.recov.nested, s.recov.conditions.setWidth 16,
        Claims.placeOr0 Claims.conditionTable s.recov.lastCondition,
        Claims.placeOr0 Claims.outcomeTable s.recov.lastOutcome, s.recov.reqNum.setWidth 16]
    ∧ Claims.shows s 0x0B78 [Claims.nat16 s.recov.lgp.track, Claims.flag16 s.recov.lgp.valid, s.recov.lgp.stamp]
    ∧ Claims.shows s 0x0B80 [Claims.nat16 (Claims.place Claims.loadingTable s.load.state),
        Claims.nat16 (s.load.switches.entry.toNat + 2 * s.load.switches.centre.toNat + 4 * s.load.switches.clamp.toNat
          + 8 * s.load.switches.home.toNat),
        Claims.opt16 (fun n => n / 50) s.load.motionTimer,
        (match s.load.work with | none => 0 | some k => k.tag.setWidth 16)]
    ∧ Claims.shows s 0x0B90 [Claims.placeOr0 Claims.supplyTable s.drive.supply, Claims.int16 s.drive.sp,
        Claims.flag16 s.drive.actuatorEnable, Claims.flag16 s.drive.spindleEnable, Claims.int16 s.drive.focus.buffered,
        Claims.applied16 s.drive.focus.applied, Claims.int16 s.drive.track.buffered, Claims.applied16 s.drive.track.applied,
        Claims.int16 s.drive.sled.buffered, Claims.applied16 s.drive.sled.applied, Claims.int16 s.drive.load.buffered,
        Claims.applied16 s.drive.load.applied, Claims.applied16 (s.drive.spindle.applied.map (fun a => a.2))]
    ∧ Claims.shows s 0x0BC0 [Claims.nat16 (Claims.place Claims.captureTable s.cap.state), Claims.nat16 s.cap.oldest,
        Claims.nat16 s.cap.valid, (match s.cap.trigger with | none => 0xFFFF | some i => Claims.nat16 i)]
    ∧ (∀ lo hi off, (lo, hi) ∈ [(0x080C, 0x0810), (0x08A4, 0x08C0), (0x08D2, 0x08E0), (0x08F2, 0x08F8), (0x08FA, 0x0900),
          (0x091E, 0x0940), (0x0962, 0x0980), (0x098C, 0x0A00), (0x0B4C, 0x0B60), (0x0B72, 0x0B78), (0x0B7E, 0x0B80),
          (0x0B88, 0x0B90), (0x0BAA, 0x0BC0), (0x0BC8, 0x1000)] →
        off % 2 = 0 → lo ≤ off → off < hi → Claims.shows1 s off 0)

/-- A notice is pending, then repeated; a read of the notice word, also a read of its offset as such, returns it and clears it;
the NOTICE line follows the pending bits masked by N.ENABLE; RESET SERVO keeps both (R189). -/
def Obligations.NoticesArePendingRepeatedAndCleared : Prop :=
  ∀ s : State, s.held = false →
    (∀ k n, (k, n) ∈ [(NoticeKind.cmdDone, 0), (.condition, 1), (.recoveryEnd, 2), (.referenceNeeded, 3), (.loading, 4),
          (.supply, 5), (.captureDone, 6), (.discAlert, 7)] →
      ∃ w : Word, exec (.noticeRaise k) s = .next (Claims.sent s (.noticeRaise k) [] [] { s with bus := { s.bus with notice := w } })
        ∧ (∀ i, w.getLsbD i =
            (s.bus.notice.getLsbD i || decide (i = n) || (decide (i = n + 8) && s.bus.notice.getLsbD n))))
    ∧ (∀ lanes, exec (.noticeWordRead lanes) s = .next { s with
          bus := { s.bus with answer := some (s.bus.notice, lanes), notice := 0 }, subs := [] }
        ∧ exec (.snapshotRead (Claims.servoArea s + 0x0804) lanes) s = exec (.noticeWordRead lanes) s)
    ∧ (s.bus.noticeLine = true ↔ ∃ i, i < 8 ∧ s.bus.notice.getLsbD i = true ∧ s.bus.enable.getLsbD i = true)
    ∧ (∀ c t, exec (.resetServo c) s = .next t → t.bus = s.bus)

/-! ## Trace Capture Unit -/

namespace Sys2Proof.Claims

/-- The unit counts the sets. -/
def recording (s : State) : Prop := s.cap.state = .armed ∨ s.cap.state = .triggerPending ∨ s.cap.state = .triggered

/-- Only the Trace Capture Unit has changed, apart from the events in transit and the sub-steps. -/
def onlyCap (s t : State) : Prop := t = { s with cap := t.cap, transit := t.transit, subs := t.subs }

/-- The command is taken with the unit left as b, and completes OK with value v (R193). -/
def capOk (s : State) (i : Instr) (c : Posted) (v : Word) (b : Capture) : Prop :=
  exec i s = .next ((sent s i [doneOf c .ok v] [] { s with cap := b }).retire c)

/-- The eight words of the record of set x (R191): the flags from the blocks as they stand. -/
def recordOf (s : State) (x : SampleSet) : List Word :=
  [x.stamp, int16 x.fe, int16 x.te, int16 x.rs, int16 s.loop.focus.last, int16 s.loop.track.last, int16 x.sh,
    nat16 (place positionTable s.pos.state + 16 * place loopTable s.loop.focus.state + 64 * place loopTable s.loop.track.state
      + 256 * (decide (s.loop.focus.state = .hold ∨ s.loop.track.state = .hold)).toNat + 512 * s.shock.shock.toNat
      + 1024 * (decide (s.defect.det = .opened)).toNat + 2048 * (decide (s.recov.state = .active)).toNat)]

/-- The write position (R191). -/
def writeAt (s : State) : Nat := (s.cap.oldest + s.cap.valid) % 256

/-- The record of x is at position p of the buffer of t, and every other byte is as it was in s. -/
def holdsRecord (s t : State) (p : Nat) (x : SampleSet) : Prop :=
  (∀ j w, (recordOf s x)[j]? = some w → t.cap.buffer.word (0x1000 + 16 * p + 2 * j) = w)
    ∧ ∀ a, a < 0x1000 + 16 * p ∨ 0x1000 + 16 * p + 16 ≤ a → t.cap.buffer.read a = s.cap.buffer.read a

/-- Set x is kept: t is the state after it, by its own row. -/
def keeps (s : State) (x : SampleSet) (t : State) : Prop :=
  exec (.captureSet x) s = .next t ∧ onlyCap s t ∧ t.cap.decim = 0 ∧ t.cap.params = s.cap.params
    ∧ holdsRecord s t (writeAt s) x

/-- The capture is done at this set, which CAPTURE_DONE names (R191). -/
def finished (s : State) (x : SampleSet) (t : State) : Prop :=
  exec (.captureDone x) s = .next t ∧ t.cap.state = .done ∧ .noticeRaise .captureDone ∈ t.transit

/-- The capture goes on after this set. -/
def unfinished (s : State) (x : SampleSet) (t : State) : Prop :=
  t.cap.state = .triggered ∧ t.transit = s.transit.erase (.captureSet x)

end Sys2Proof.Claims

/-- The Trace Capture Unit's commands, in every state of the unit (R193). -/
def Obligations.CaptureCommandsArmTriggerStop : Prop :=
  ∀ (s : State) (c : Posted), s.held = false →
    (s.cap.state = .idle ∨ s.cap.state = .done →
      Claims.capOk s (.captureArm c) c 0
        { s.cap with oldest := 0, valid := 0, decim := 0, trigger := none, post := none, state := .armed })
    ∧ (Claims.recording s → exec (.captureArm c) s = .next (Claims.refusedNow s (.captureArm c) c .busy 0))
    ∧ (s.cap.state = .idle → exec (.captureTrigger c) s = .next (Claims.refusedNow s (.captureTrigger c) c .notReady 0))
    ∧ (s.cap.state = .armed →
      (s.cap.params.triggers.testBit 3 = true →
        Claims.capOk s (.captureTrigger c) c 0 { s.cap with state := .triggerPending })
      ∧ (s.cap.params.triggers.testBit 3 = false → Claims.capOk s (.captureTrigger c) c 0 s.cap))
    ∧ (s.cap.state = .triggerPending ∨ s.cap.state = .triggered ∨ s.cap.state = .done →
      Claims.capOk s (.captureTrigger c) c 0 s.cap)
    ∧ (Claims.recording s →
      Claims.capOk s (.captureStop c) c (BitVec.ofNat 16 s.cap.valid) { s.cap with state := .idle, post := none })
    ∧ (s.cap.state = .idle ∨ s.cap.state = .done →
      Claims.capOk s (.captureStop c) c (BitVec.ofNat 16 s.cap.valid) s.cap)

/-- The Trace Capture Unit at a set: what it counts, which record it keeps and where, the trigger record, and the end (R191,
R192); and what a trigger event does in every state (R192). That the post count stands at 0 in DONE is the model's reading
(log 40). -/
def Obligations.CaptureKeepsRecordsAroundTheTrigger : Prop :=
  ∀ (s : State) (x : SampleSet), s.held = false → s.cap.buffer.wf = true →
    (¬Claims.recording s → exec (.captureSet x) s = .next (s.take (.captureSet x)))
    ∧ (Claims.recording s → (s.cap.decim : Int) < (s.cap.params.decimate : Int) - 1 →
        exec (.captureSet x) s =
          .next (Claims.sent s (.captureSet x) [] [] { s with cap := { s.cap with decim := s.cap.decim + 1 } }))
    ∧ ((s.cap.params.decimate : Int) - 1 ≤ s.cap.decim →
      (s.cap.state = .armed →
        ∃ t, Claims.keeps s x t ∧ t.transit = s.transit.erase (.captureSet x) ∧ t.cap.state = .armed
          ∧ t.cap.trigger = s.cap.trigger ∧ t.cap.post = s.cap.post
          ∧ (s.cap.valid < 256 → t.cap.valid = s.cap.valid + 1 ∧ t.cap.oldest = s.cap.oldest)
          ∧ (s.cap.valid = 256 → t.cap.valid = 256 ∧ t.cap.oldest = (s.cap.oldest + 1) % 256))
      ∧ (s.cap.state = .triggerPending → s.cap.params.pre ≤ 255 →
        ∃ t, Claims.keeps s x t ∧ t.cap.trigger = some (Claims.writeAt s)
          ∧ t.cap.post = some (255 - s.cap.params.pre)
          ∧ (s.cap.valid ≤ s.cap.params.pre → t.cap.valid = s.cap.valid + 1 ∧ t.cap.oldest = s.cap.oldest)
          ∧ (s.cap.params.pre < s.cap.valid → t.cap.valid = s.cap.params.pre + 1
              ∧ (t.cap.oldest : Int) = ((Claims.writeAt s : Int) - s.cap.params.pre) % 256)
          ∧ (s.cap.params.pre < 255 → Claims.unfinished s x t)
          ∧ (s.cap.params.pre = 255 → Claims.finished s x t))
      ∧ (∀ p, s.cap.state = .triggered → s.cap.post = some p → 1 ≤ p →
        ∃ t, Claims.keeps s x t ∧ t.cap.trigger = s.cap.trigger ∧ t.cap.valid = s.cap.valid + 1
          ∧ t.cap.oldest = s.cap.oldest ∧ t.cap.post = some (p - 1)
          ∧ (1 < p → Claims.unfinished s x t)
          ∧ (p = 1 → Claims.finished s x t)))
    ∧ (∀ src bit, (src, bit) ∈ [(TriggerSource.condition, 0), (.defectOpen, 1), (.shockStart, 2)] →
        (s.cap.state = .armed → s.cap.params.triggers.testBit bit = true →
          exec (.triggerEvent src) s =
            .next (Claims.sent s (.triggerEvent src) [] [] { s with cap := { s.cap with state := .triggerPending } }))
        ∧ (s.cap.state ≠ .armed ∨ s.cap.params.triggers.testBit bit = false →
          exec (.triggerEvent src) s = .next (s.take (.triggerEvent src))))

end
end

