-- ==== Sys2Proof/WellFormed.lean ====
section
/-! DEFINITION. Which commands are well formed: the ranges the spec gives what an event carries. exec gives every command its
meaning, well formed or not; this says which ones the part itself forms. -/

namespace Sys2Proof

/-- lo ≤ v ≤ hi. -/
def inRange (lo hi v : Int) : Bool := decide (lo ≤ v) && decide (v ≤ hi)

/-- A duty of a channel: −1023..+1023 (R169). -/
def isDuty (v : Int) : Bool := inRange (-1023) 1023 v

/-- Raw conversions within the converter's range (R2, R4). -/
def RawSet.ok (r : RawSet) : Bool :=
  inRange (-2048) 2047 r.fe && inRange (-2048) 2047 r.te && inRange 0 4095 r.rs && inRange (-2048) 2047 r.sh
    && inRange 0 4095 r.sc && inRange 0 4095 r.sp && inRange 0 4095 r.tm

/-- A sample set within the ranges of R2 and R4, with a refresh exactly at the stamps of R4. -/
def SampleSet.ok (x : SampleSet) : Bool :=
  inRange (-2048) 2047 x.fe && inRange (-2048) 2047 x.te && inRange 0 4095 x.rs && inRange (-2048) 2047 x.sh
    && inRange 0 4095 x.sc
    && (match x.refresh with
        | none => decide (x.stamp.toNat % 64 ≠ 63)
        | some r => decide (x.stamp.toNat % 64 = 63) && inRange 0 65519 r.sp && inRange 0 4095 r.tm)

/-- The codes of Table 11-3. -/
def listedCodes : List Byte :=
  [0x01, 0x02, 0x10, 0x11, 0x12, 0x20, 0x21, 0x22, 0x23, 0x24, 0x25, 0x26, 0x27, 0x28, 0x30, 0x31, 0x32, 0x40, 0x50, 0x51,
   0x60, 0x61, 0x62, 0x70]

/-- A command offered from the queue under its own code. -/
def Posted.queuedAs (c : Posted) (code : Byte) : Bool := decide (c.code = code) && !c.urgent

/-- A command that the urgent slot accepts too (R182). -/
def Posted.anywhereAs (c : Posted) (code : Byte) : Bool := decide (c.code = code)

/-- A Hall pattern of the spindle is formed for a valid Hall state (Table 7-2, R111). -/
def Pattern.ok : Pattern → Bool
  | .coast => true
  | .shortBrake => true
  | .forward h => decide (h ≠ 0) && decide (h ≠ 7)
  | .reverse h => decide (h ≠ 0) && decide (h ≠ 7)

/-- A delivery within its channel's range (R169). -/
def Delivery.ok : Delivery → Bool
  | .focus d => isDuty d
  | .track d => isDuty d
  | .sled d => isDuty d
  | .load d => isDuty d
  | .spindle p m => p.ok && inRange 0 1023 m

/-- A drive that a request carries lies within the duty range. -/
def PosReq.ok : PosReq → Bool
  | .openWith d => isDuty d
  | .drive d => isDuty d
  | _ => true

/-- A driven duty lies within the duty range. -/
def SledReq.ok : SledReq → Bool
  | .driven d => isDuty d
  | .toLoop => true

/-- Reports of the track counter carry a value of 16 bits (R61). -/
def DefectReport.ok : DefectReport → Bool
  | .counter v _ => decide (v < 65536)
  | _ => true

/-- Reports of the track counter carry a value of 16 bits (R61). -/
def RecoveryReport.ok : RecoveryReport → Bool
  | .counter v _ => decide (v < 65536)
  | _ => true

/-- The check of a command. -/
def Instr.wellFormed (i : Instr) : Bool :=
  match i with
  | .sampleSet r => r.ok
  | .calibrationComplete r => r.ok
  | .laserOn c => c.queuedAs 0x10
  | .laserOff c => c.queuedAs 0x11
  | .calibrateOffsets c => c.queuedAs 0x12
  | .loopSampleSet x => x.ok
  | .holdTimeout x => x.ok
  | .limitRun x => x.ok
  | .sledUpdate x => x.ok
  | .positionRequest _ r => r.ok
  | .feedForwardValue _ v => isDuty v
  | .sledRequest r => r.ok
  | .positionSet x => x.ok
  | .focusLock x => x.ok
  | .focusClosureAbandoned x => x.ok
  | .focusLost x => x.ok
  | .trackingClose x => x.ok
  | .trackingLock x => x.ok
  | .pullInTimeout x => x.ok
  | .parkTimeout x => x.ok
  | .kickEnd x => x.ok
  | .jumpBrakeEnd x => x.ok
  | .jumpTimerExpiry x => x.ok
  | .catchLock x => x.ok
  | .catchTimeout x => x.ok
  | .settleComplete x => x.ok
  | .sledBrakeEnd x => x.ok
  | .seekTimeout x => x.ok
  | .recoverySeek _ t => decide (t < 65536)
  | .focusOn c => c.queuedAs 0x20
  | .focusOff c => c.queuedAs 0x21
  | .trackOn c => c.queuedAs 0x22
  | .trackOff c => c.queuedAs 0x23
  | .jump c => c.queuedAs 0x24
  | .seek c => c.queuedAs 0x25
  | .setTrackReference c => c.anywhereAs 0x26
  | .park c => c.queuedAs 0x27
  | .stop c => c.anywhereAs 0x28
  | .defectSet x => x.ok
  | .defectOpen x => x.ok
  | .defectClose x => x.ok
  | .freezeEnd x => x.ok
  | .defectNeighbourReport r => r.ok
  | .rebaseDefectMap d => inRange (-65535) 65535 d
  | .clearMap c => c.queuedAs 0x40
  | .shockSet x => x.ok
  | .shockStart x => x.ok
  | .shockEnd x => x.ok
  | .spindleSet x => x.ok
  | .stallTimerExpiry x => x.ok
  | .stopTimerExpiry x => x.ok
  | .brakeTimerExpiry x => x.ok
  | .spinCommandTimeout x => x.ok
  | .seekTargetSend t => t.all (fun v => decide (v < 65536))
  | .trackCounterReport v _ => decide (v < 65536)
  | .spinCav c => c.queuedAs 0x30
  | .spinClv c => c.queuedAs 0x31
  | .spinStop c => c.queuedAs 0x32
  | .recoveryViewReport r => r.ok
  | .rebaseLastGoodPlace d => inRange (-65535) 65535 d
  | .load c => c.queuedAs 0x50
  | .eject c => c.queuedAs 0x51
  | .dutyDelivery d => d.ok
  | .supplySet x => x.ok
  | .rideTimerExpiry x => x.ok
  | .restoreTimerExpiry x => x.ok
  | .windowWrite a _ _ => decide (a % 2 = 0)
  | .nop c => c.queuedAs 0x01
  | .unknownCommand c => !(listedCodes.contains c.code) && !c.urgent
  | .applyParameters c => c.queuedAs 0x02
  | .resetServo c => c.anywhereAs 0x70
  | .snapshotRead a _ => decide (a % 2 = 0)
  | .captureSet x => x.ok
  | .captureDone x => x.ok
  | .captureArm c => c.queuedAs 0x60
  | .captureTrigger c => c.queuedAs 0x61
  | .captureStop c => c.queuedAs 0x62
  | _ => true

end Sys2Proof
end

