-- ==== Sys2Proof/Tests/Slice0.lean ====
section
/-! SUPPORT. Tests of the model on fixed values: what is not well formed, the worked sequences of spec/, and for each statement
of Certificates/Slice0/Obligations.lean concrete states and operands that meet its hypotheses. -/

namespace Sys2Proof.Tests

open Sys2Proof Sys2Proof.Machine

/-! ## Small states -/

/-- The machine running after reset. -/
def live : State := { State.reset with held := false }

/-- The state after a command. -/
def after (i : Instr) (s : State) : State :=
  match exec i s with
  | .next t => t
  | _ => State.reset

/-- The state after a step. -/
def stepped (s : State) : State :=
  match step s with
  | .next t => t
  | _ => State.reset

/-- A set of zeros. -/
def set0 : SampleSet := { stamp := 0, fe := 0, te := 0, rs := 0, sh := 0, sc := 0, refresh := none }

/-- Raw conversions of zero, every switch released. -/
def raw0 : RawSet := { fe := 0, te := 0, rs := 0, sh := 0, sc := 0, sp := 0, tm := 0, pins := releasedPins }

/-- A posted command without arguments. -/
def cmd (code tag : Byte) : Posted :=
  { code := code, option := 0, w1 := 0, w2 := 0, w3 := 0, w4 := 0, w5 := 0, w6 := 0, tag := tag, urgent := false }

def inFe (b : FrontEnd) : State := { live with fe := b }
def inLoop (b : LoopProc) : State := { live with loop := b }
def inPos (b : Pos) : State := { live with pos := b }
def inSpin (b : Spin) : State := { live with spin := b }
def inDefect (b : Def) : State := { live with defect := b }
def inShock (b : Shock) : State := { live with shock := b }
def inRecov (b : Rec) : State := { live with recov := b }
def inLoad (b : Load) : State := { live with load := b }
def inDrive (b : Drive) : State := { live with drive := b }
def inCap (b : Capture) : State := { live with cap := b }
def inQueue (q : List Posted) : State := { live with cq := { CmdQueue.reset with queue := q } }

/-! ## Well-formedness: for each check a term that it refuses -/

theorem test_wellformed_raw : Instr.wellFormed (.sampleSet raw0) = true
    ∧ Instr.wellFormed (.sampleSet { raw0 with fe := 2048 }) = false
    ∧ Instr.wellFormed (.calibrationComplete { raw0 with rs := -1 }) = false := by decide

theorem test_wellformed_set : Instr.wellFormed (.positionSet set0) = true
    ∧ Instr.wellFormed (.positionSet { set0 with te := -2049 }) = false
    ∧ Instr.wellFormed (.supplySet { set0 with stamp := 63 }) = false
    ∧ Instr.wellFormed (.supplySet { set0 with refresh := some { sp := 0, tm := 0 } }) = false
    ∧ Instr.wellFormed (.supplySet { set0 with stamp := 63, refresh := some { sp := 0, tm := 4096 } }) = false := by decide

theorem test_wellformed_code : Instr.wellFormed (.jump (cmd 0x24 1)) = true
    ∧ Instr.wellFormed (.jump (cmd 0x25 1)) = false
    ∧ Instr.wellFormed (.jump { cmd 0x24 1 with urgent := true }) = false
    ∧ Instr.wellFormed (.stop { cmd 0x28 1 with urgent := true }) = true
    ∧ Instr.wellFormed (.stop (cmd 0x27 1)) = false
    ∧ Instr.wellFormed (.unknownCommand (cmd 0x03 1)) = true
    ∧ Instr.wellFormed (.unknownCommand (cmd 0x70 1)) = false := by decide

theorem test_wellformed_requests : Instr.wellFormed (.positionRequest .focus (.drive 1023)) = true
    ∧ Instr.wellFormed (.positionRequest .focus (.drive 1024)) = false
    ∧ Instr.wellFormed (.positionRequest .focus (.openWith (-1024))) = false
    ∧ Instr.wellFormed (.sledRequest (.driven 1024)) = false
    ∧ Instr.wellFormed (.feedForwardValue .focus 1024) = false := by decide

theorem test_wellformed_delivery : Instr.wellFormed (.dutyDelivery (.focus (-1023))) = true
    ∧ Instr.wellFormed (.dutyDelivery (.load (-1024))) = false
    ∧ Instr.wellFormed (.dutyDelivery (.spindle (.forward 1) 1023)) = true
    ∧ Instr.wellFormed (.dutyDelivery (.spindle (.forward 0) 0)) = false
    ∧ Instr.wellFormed (.dutyDelivery (.spindle (.reverse 7) 0)) = false
    ∧ Instr.wellFormed (.dutyDelivery (.spindle .coast (-1))) = false := by decide

theorem test_wellformed_counts : Instr.wellFormed (.defectNeighbourReport (.counter 65535 true)) = true
    ∧ Instr.wellFormed (.defectNeighbourReport (.counter 65536 true)) = false
    ∧ Instr.wellFormed (.recoveryViewReport (.counter 65536 true)) = false
    ∧ Instr.wellFormed (.trackCounterReport 65536 true) = false
    ∧ Instr.wellFormed (.seekTargetSend (some 65536)) = false
    ∧ Instr.wellFormed (.recoverySeek 1 65536) = false
    ∧ Instr.wellFormed (.rebaseDefectMap 65536) = false
    ∧ Instr.wellFormed (.rebaseLastGoodPlace (-65536)) = false := by decide

theorem test_wellformed_bus : Instr.wellFormed (.windowWrite 0xE000 0 Claims.both) = true
    ∧ Instr.wellFormed (.windowWrite 0xE001 0 Claims.both) = false
    ∧ Instr.wellFormed (.snapshotRead 0xE801 Claims.both) = false := by decide

/-! ## The table gives no bits -/

theorem test_no_word_decodes (n w : Nat) : decodeTableWord n w = none := rfl

theorem test_step_takes_front :
    let t := stepped { live with pending := [.noticeRaise .supply, .loadingSet] }
    t.bus.notice = 0x20 ∧ t.pending = [.loadingSet] := by decide

theorem test_step_without_command :
    (stepped { live with transit := [.noticeRaise .supply, .loadingSet] }).bus.notice = 0x20
      ∧ (stepped { live with transit := [.noticeRaise .supply, .loadingSet] }).transit = [.loadingSet]
      ∧ stepped live = live := by decide

/-! ## Signal Front End: the calibration of spec/01 section 1.5 -/

def calibrating : State :=
  inFe { FrontEnd.reset with
    formed := true, stamp := 1255, laser := true,
    calibration := some { tag := 0x21, count := 255, sumFe := -2990, sumTe := 12800, sumSh := -129 } }

theorem test_calibration_completes :
    let t := after (.calibrationComplete { raw0 with fe := -10 }) calibrating
    t.fe.feOffset = -12 ∧ t.fe.teOffset = 50 ∧ t.fe.shOffset = -1 ∧ t.fe.calibration = none ∧ t.fe.stamp = 1256
      ∧ .completion { tag := 0x21, code := 0x12, result := .ok, value := 0xFFF4 } ∈ t.transit := by decide

/-- R6, R10: the value of a refused CALIBRATE OFFSETS is the FE offset. -/
theorem test_refused_calibration_gives_offset :
    let c := cmd 0x12 7
    let t := after (.calibrateOffsets c) { inQueue [c] with
      fe := { FrontEnd.reset with feOffset := -12 }, pos := { Pos.reset with state := .focused } }
    t.cq.ring.head? = some { tag := 7, code := 0x12, result := .notReady, value := 0xFFF4 } := by decide

theorem test_set_after_calibration :
    let s := inFe { FrontEnd.reset with formed := true, stamp := 1256, feOffset := -12 }
    (.positionSet { set0 with stamp := 1257, fe := 2 } ∈ (after (.sampleSet { raw0 with fe := -10 }) s).transit)
      ∧ (.positionSet { set0 with stamp := 1257, fe := 2047 } ∈ (after (.sampleSet { raw0 with fe := 2047 }) s).transit) := by
  decide

/-- R1: sample instants come every 20 µs, whatever Hall edges come between. -/
theorem test_instants_keep_their_grid :
    let s := { inFe { FrontEnd.reset with formed := true } with clock := 1000, instant := 1000 }
    let t := after (.sampleSet raw0) (after (.hallStateTaken 3 1015) s)
    (after (.hallStateTaken 3 1015) s).clock = 1015 ∧ t.clock = 1020 ∧ t.instant = 1020
      ∧ (after (.sampleSet raw0) { live with clock := 7 }).instant = 27 := by decide

theorem test_first_set_has_stamp_0 : (after (.sampleSet raw0) live).fe.stamp = 0
    ∧ (after (.sampleSet raw0) (inFe { FrontEnd.reset with formed := true, stamp := 0xFFFF })).fe.stamp = 0 := by
  decide

/-! ## Loop Processor: the worked sequences of spec/02 -/

def focusLoop : Loop :=
  { Loop.reset with
    state := .closed, d1 := { x1 := 380, x2 := 0, y1 := 220, y2 := 0 }, d2 := { x1 := 310, x2 := 290, y1 := 310, y2 := 290 },
    params := { defaultLoopParams with
      coefN := { s1 := { b0 := 12288, b1 := -8192, b2 := 0, a1 := -4096, a2 := 0 },
                 s2 := { b0 := 8192, b1 := 0, b2 := 0, a1 := 0, a2 := 0 } },
      gainN := 40000, bias := -20, limit := 900, trim := [1, 1, 17203, 1, 1, 1] } }

def focusState : State := inLoop { LoopProc.reset with focus := focusLoop, band := 2 }

theorem test_focus_sample :
    let t := after (.loopSampleSet { set0 with fe := 400 }) focusState
    t.loop.focus.last = 826 ∧ t.loop.focus.d1 = { x1 := 400, x2 := 380, y1 := 330, y2 := 220 }
      ∧ t.loop.focus.d2 = { x1 := 330, x2 := 310, y1 := 330, y2 := 310 } ∧ t.loop.focus.limitCount = 0
      ∧ t.loop.focus.eventCount = 0 := by decide

theorem test_focus_sample_at_limit :
    let t := after (.loopSampleSet { set0 with fe := 400 })
      (inLoop { LoopProc.reset with
        focus := { focusLoop with params := { focusLoop.params with bias := 80 } }, band := 2 })
    t.loop.focus.last = 900 ∧ t.loop.focus.lastEvent = 5 ∧ t.loop.focus.eventCount = 1 ∧ t.loop.focus.limitCount = 1
      ∧ t.loop.focus.d1 = { x1 := 400, x2 := 380, y1 := 330, y2 := 220 }
      ∧ t.loop.focus.d2 = { x1 := 310, x2 := 290, y1 := 310, y2 := 290 } := by decide

theorem test_sample_with_three_events :
    let k := ({ Loop.reset with
      gainUse := .shock,
      params := { defaultLoopParams with gainS := 65535, shiftS := 0, trim := [32767, 1, 1, 1, 1, 1] } } : Loop).compute 0 (-200)
    k.v = -800 ∧ k.limited = true ∧ k.events = [3, 4, 5] := by decide

/-- The band after a refresh with TM = v. -/
def bandAfter (v : Int) (b : LoopProc) : LoopProc :=
  (after (.loopSampleSet { set0 with refresh := some { sp := 0, tm := v } }) (inLoop b)).loop

theorem test_band_changes :
    (bandAfter 1500 LoopProc.reset).band = 2
      ∧ (bandAfter 1390 (bandAfter 1500 LoopProc.reset)).band = 2
      ∧ (bandAfter 1380 (bandAfter 1500 LoopProc.reset)).band = 1
      ∧ (bandAfter 3300 (bandAfter 1380 (bandAfter 1500 LoopProc.reset))).band = 5
      ∧ (bandAfter 3190 (bandAfter 3300 LoopProc.reset)).band = 5 := by decide

/-- A sled whose eighth tracking output, 0, is due, with this window sum. -/
def sledState (sum : Int) (home : Bool) : State :=
  { inLoop { LoopProc.reset with
      track := { Loop.reset with state := .closed }, sled := { Sled.reset with phase := 7, sum := sum } } with
    pins := { releasedPins with sledHome := home } }

theorem test_sled_updates :
    (after (.sledUpdate set0) (sledState 1000 false)).loop.sled.lastDuty = 43
      ∧ (after (.sledUpdate set0) (sledState (-1000) false)).loop.sled.lastDuty = -42
      ∧ (after (.sledUpdate set0) (sledState (-1000) true)).loop.sled.lastDuty = 0
      ∧ (after (.sledUpdate set0) (sledState (-1000) true)).loop.sled.phase = 0 := by decide

theorem test_hold_freezes_and_times_out :
    let hold : Loop := { Loop.reset with state := .hold, held := some 77, holdCount := 99,
                                         holds := { defect := true, predict := false, supply := false } }
    let t := after (.holdTimeout set0) (inLoop { LoopProc.reset with focus := hold })
    t.loop.focus.state = .closed ∧ t.loop.focus.last = 77 ∧ .condition .holdTimeout ∈ t.transit
      ∧ (after (.loopSampleSet set0) (inLoop { LoopProc.reset with focus := { hold with holdCount := 3 } })).loop.focus.last
          = 77 := by decide

theorem test_supply_reports_off_though_open_was_just_taken :
    let t := after (.loopSampleSet set0) (inLoop { LoopProc.reset with
      focus := { Loop.reset with request := some (.openWith 500),
                                 holds := { defect := false, predict := false, supply := true } } })
    t.loop.focus.state = .off ∧ .loopStateReport (.state .focus .off false) ∈ t.transit ∧ t.loop.focus.last = 0 := by
  decide

/-- R47: an OFF request replaced by an OPEN asks for nothing; a requested OFF is told apart from a SUPPLY OFF. -/
theorem test_requested_off_is_told_apart :
    let stale := after (.positionRequest .focus (.openWith 0)) (after (.positionRequest .focus .off)
      (inLoop { LoopProc.reset with focus := { Loop.reset with state := .opened } }))
    let t := after (.loopSampleSet set0) { stale with loop := { stale.loop with focus := { stale.loop.focus with
      holds := { defect := false, predict := false, supply := true } } } }
    let u := after (.loopSampleSet set0) (inLoop { LoopProc.reset with
      focus := { Loop.reset with state := .opened, request := some .off } })
    .loopStateReport (.state .focus .off false) ∈ t.transit ∧ .loopStateReport (.state .focus .off true) ∈ u.transit := by
  decide

/-! ## Position Controller -/

/-- The Position Controller on a focused disc, tracking closed, the counter at n. -/
def onTrack (n : Nat) : Pos :=
  { Pos.reset with
    state := .onTrack, counter := n, valid := true, armed := true,
    views := { Pos.reset.views with focus := .closed, track := .closed, loading := .loaded, spindle := .regulating } }

/-- A bright set. -/
def bright0 : SampleSet := { set0 with rs := 2000 }

theorem test_crossings_count :
    (after (.positionSet { bright0 with te := 151 }) (inPos (onTrack 100))).pos.counter = 101
      ∧ (after (.positionSet { bright0 with te := 151, rs := 1499 }) (inPos (onTrack 100))).pos.counter = 99
      ∧ (after (.positionSet { bright0 with te := 150 }) (inPos (onTrack 100))).pos.counter = 100
      ∧ (after (.positionSet { bright0 with te := 151, rs := 1499 }) (inPos (onTrack 0))).pos.valid = false := by
  decide

/-- The motion record of a jump of two tracks outward. -/
def jump2 : Motion :=
  { isSeek := false, phase := .kick, dir := 1, jumpCount := 2, jumpTarget := some 102, seekTarget := 0, clamped := false,
    corrections := 0, retargeted := false, timedOut := false, jumpTimer := some 0, jumpSets := 200, seekTimer := 0,
    brakeCount := 0, pull := none, settleCount := 0 }

theorem test_jump_begins :
    let t := after (.jump { cmd 0x24 9 with w1 := 2 }) (inPos (onTrack 100))
    t.pos.state = .jumping ∧ t.pos.motion = some jump2 ∧ .positionRequest .track (.openWith 500) ∈ t.transit := by
  decide

theorem test_seek_clamps :
    let t := after (.seek { cmd 0x25 9 with w1 := 1, w2 := 0 }) (inPos (onTrack 100))
    t.pos.state = .seeking ∧ t.pos.motion.map Motion.seekTarget = some 24000 ∧ t.pos.motion.map Motion.clamped = some true
      ∧ .sledRequest (.driven 700) ∈ t.transit := by decide

/-- A jump's kick with its last crossing due. -/
def kicking : State :=
  inPos { onTrack 101 with
    state := .jumping, work := some { kind := .jump, origin := .command 9 0x24 }, motion := some { jump2 with jumpCount := 1 } }

theorem test_kick_ends :
    let t := after (.kickEnd { bright0 with te := 151 }) kicking
    t.pos.motion.map Motion.phase = some .brake ∧ t.pos.counter = 102
      ∧ .positionRequest .track (.drive (-400)) ∈ t.transit := by decide

theorem test_substep_row_that_does_not_come : after (.kickEnd bright0) kicking = kicking := by decide

theorem test_focus_on_and_park :
    let idle := inPos { Pos.reset with views := { Pos.reset.views with loading := .loaded } }
    (after (.focusOn (cmd 0x20 1)) idle).pos.state = .focusSearch
      ∧ .laserRequest true ∈ (after (.focusOn (cmd 0x20 1)) idle).transit
      ∧ (after (.focusOn (cmd 0x20 1)) live).pos.state = .idle
      ∧ (after (.park (cmd 0x27 1)) (inPos (onTrack 5))).pos.state = .parking := by decide

theorem test_reference_is_taken :
    let t := after (.setTrackReference { cmd 0x26 3 with w1 := 200 }) (inPos (onTrack 150))
    t.pos.counter = 200 ∧ .rebaseDefectMap 50 ∈ t.transit ∧ .referenceTakenNotice ∈ t.transit
      ∧ (after (.setTrackReference { cmd 0x26 3 with w1 := 200 }) live).pos.counter = 0 := by decide

/-! ## Defect Monitor: the worked sequences of spec/05 -/

def clear2000 : Def := { Def.reset with det := .clear, baseline := 32000 }

theorem test_defect_baseline :
    let t1 := after (.defectSet { set0 with rs := 1600 }) (inDefect clear2000)
    let t2 := after (.defectSet { set0 with rs := 1550 }) t1
    let t3 := after (.defectOpen { set0 with rs := 1500 }) t2
    t1.defect.baseline = 31200 ∧ t2.defect.baseline = 30400 ∧ t2.defect.openRun = 2 ∧ t3.defect.det = .opened
      ∧ t3.defect.baseline = 30400 ∧ .holdSourceRequest .both .defect true ∈ t3.transit := by decide

theorem test_defect_freeze_ends :
    let s := inDefect { clear2000 with baseline := 30400, freeze := some 199 }
    (after (.freezeEnd { set0 with rs := 1850 }) s).defect.baseline = 30300
      ∧ (after (.freezeEnd { set0 with rs := 1850 }) s).defect.freeze = none := by decide

/-- The five entries of the full map of spec/05 section 5.8, and 27 entries beside them. -/
def fullMap : List Entry :=
  (List.range 20).map (fun k => { track := k, start := 0, len := 1, hits := 2, stamp := 0 })
    ++ [{ track := 1100, start := 2000, len := 20, hits := 1, stamp := 300 },
        { track := 1250, start := 1000, len := 60, hits := 3, stamp := 380 },
        { track := 1250, start := 1120, len := 40, hits := 1, stamp := 401 },
        { track := 1380, start := 4000, len := 12, hits := 1, stamp := 65500 },
        { track := 1500, start := 700, len := 25, hits := 1, stamp := 65500 }]
    ++ (List.range 7).map (fun k => { track := 2000 + k, start := 0, len := 1, hits := 2, stamp := 0 })

/-- A defect open on a track from a start angle, closing at the set; the spindle stands at angle 256·sector + sub. -/
def closing (map : List Entry) (track start edges sub : Nat) (rev : Word) : State :=
  { live with
    clock := sub
    spin := { Spin.reset with edges := edges, origin := true, interval := some 256, lastDir := some .forward }
    defect := { clear2000 with
      det := .opened, closeRun := 2, map := map,
      openRec := some { track := track, trackKnown := true, start := start, startKnown := true, markers := 0, usable := true },
      views := { position := .onTrack, counter := track, valid := true, angleValid := true, rev := rev },
      params := { defaultDefectParams with prehold := 0 } } }

theorem test_learn_into_full_map :
    let t := after (.defectClose { set0 with rs := 1950 }) (closing fullMap 1400 5200 20 143 412)
    t.defect.map.length = 32
      ∧ { track := 1400, start := 5200, len := 64, hits := 1, stamp := 412 : Entry } ∈ t.defect.map
      ∧ { track := 1380, start := 4000, len := 12, hits := 1, stamp := 65500 : Entry } ∉ t.defect.map
      ∧ { track := 1500, start := 700, len := 25, hits := 1, stamp := 65500 : Entry } ∈ t.defect.map := by decide +kernel

theorem test_learn_merges_neighbours :
    let t := after (.defectClose { set0 with rs := 1950 }) (closing fullMap 1250 1070 4 76 430)
    t.defect.map.length = 31
      ∧ { track := 1250, start := 1000, len := 160, hits := 4, stamp := 430 : Entry } ∈ t.defect.map := by decide

/-- The spindle at angle a, one entry in the map, predictive hold on. -/
def passing (a : Nat) (v : Option Window) (hits : Nat) : State :=
  { live with
    clock := a % 256
    spin := { Spin.reset with edges := a / 256, origin := true, interval := some 256, lastDir := some .forward }
    defect := { Def.reset with
      map := [{ track := 1100, start := 2000, len := 20, hits := hits, stamp := 300 }], window := v,
      views := { position := .onTrack, counter := 1100, valid := true, angleValid := true, rev := 455 } } }

theorem test_window_at_guarded_span :
    (after (.defectSet set0) (passing 1983 none 1)).defect.window = none
      ∧ (after (.defectSet set0) (passing 1984 none 1)).defect.window = some { track := 1100, start := 2000, seen := false }
      ∧ (after (.defectSet set0) (passing 2035 none 1)).defect.window = some { track := 1100, start := 2000, seen := false }
      ∧ (after (.defectSet set0) (passing 2036 none 1)).defect.window = none
      ∧ (after (.defectSet set0) (passing 2036 (some { track := 1100, start := 2000, seen := false }) 1)).defect.map = []
      ∧ ((after (.defectSet set0) (passing 2036 (some { track := 1100, start := 2000, seen := false }) 2)).defect.map.map
          Entry.hits) = [1] := by decide

/-! ## Shock Monitor -/

theorem test_shock_begins_and_ends :
    let quiet := { Shock.reset with startRun := 1, params := { defaultShockParams with ffF := 4096, ffEnable := 1 } }
    let t := after (.shockStart { set0 with sh := -600 }) (inShock quiet)
    let e := after (.shockEnd { set0 with sh := 299 }) (inShock { quiet with shock := true, quietCount := 2499 })
    t.shock.shock = true ∧ t.shock.ffFocus = -200 ∧ t.shock.ffTrack = 0 ∧ .gainSetRequest .both .shock ∈ t.transit
      ∧ e.shock.shock = false ∧ e.shock.ffFocus = 0 ∧ .gainSetRequest .both .normal ∈ e.transit := by decide

/-! ## Spindle Controller: the worked sequence of spec/07 section 7.7 -/

/-- The spindle on a CLV target at track n, phase 5, the last five intervals given. -/
def clv (n : Nat) (state : SpindleState) (integ : Int) (inRun : Nat) (five : List Nat) : Spin :=
  { Spin.reset with
    state := state, hall := 1, origin := true, refTime := some 0, interval := some 5000, history := 5000 :: five, phase := 5,
    target := some .clv, integ := integ, inRun := inRun, stopTimer := none,
    work := some { tag := 0x52, code := 0x31, isStop := false, clamped := false, timer := 0 },
    views := { loading := .loaded, supply := some .ok, enable := true, counter := n, valid := true } }

theorem test_speed_update_1 :
    let t := after (.speedUpdate 3 5090) (inSpin (clv 1250 .slewing 300 2 [5080, 5085, 5090, 5075, 5080]))
    t.spin.pTarget = 120831 ∧ t.spin.pMeas = 122000 ∧ t.spin.err = 1169 ∧ t.spin.integ = 314 ∧ t.spin.duty = 771
      ∧ t.spin.inRun = 3 ∧ t.spin.state = .slewing := by decide

theorem test_speed_update_2 :
    let t := after (.regulationEntry 3 5050) (inSpin (clv 1250 .slewing 314 3 [5050, 5050, 5050, 5050, 5050]))
    t.spin.integ = 319 ∧ t.spin.duty = 463 ∧ t.spin.state = .regulating
      ∧ .completion { tag := 0x52, code := 0x31, result := .ok, value := 15150 } ∈ t.transit := by decide

theorem test_speed_update_3 :
    let t := after (.speedUpdate 3 5038)
      (inSpin { clv 1250 .regulating 319 0 [5037, 5038, 5037, 5038, 5037] with seekTarget := some 1700, work := none })
    t.spin.pTarget = 124310 ∧ t.spin.integ = 277 ∧ t.spin.duty = -1000 ∧ t.spin.magnitude = 1000 ∧ t.spin.outRun = 0
      ∧ t.spin.pattern = .reverse 3 ∧ t.spin.state = .regulating := by decide

/-- R128: a Hall fault ends an open respin request in COASTING too, and R120 clears the enable that the view shows set. -/
theorem test_hall_fault_ends_respin_in_coasting :
    let t := after (.hallStateTaken 6 9000) (inSpin { clv 1250 .coasting 0 0 [] with respin := some 7 })
    t.spin.state = .coasting ∧ t.spin.respin = none ∧ .spindleEnableRequest false ∈ t.transit := by decide

theorem test_hall_fault_and_return :
    let t := after (.hallStateTaken 6 9000) (inSpin (clv 1250 .regulating 319 0 []))
    t.spin.state = .fault ∧ t.spin.origin = false ∧ .hallFaultNotice ∈ t.transit ∧ .condition .spindleFault ∈ t.transit := by
  decide

/-! ## Recovery Controller -/

theorem test_plan_begins_at_earliest_step :
    let b : Rec := { Rec.reset with views := { Rec.reset.views with loading := .loaded, supply := some .ok } }
    let t := after .recoverySet (inRecov { b with conditions := 0x84 })
    let m := after .recoverySet (inRecov { b with conditions := 0x80, params := { defaultRecoveryParams with mask := 0x7F } })
    t.recov.state = .active ∧ t.recov.step = some .refocus ∧ t.recov.reqNum = 1 ∧ .recoverySearch 1 ∈ t.transit
      ∧ .recoveryAbort ∈ t.transit ∧ m.recov.state = .idle ∧ m.recov.conditions = 0
      ∧ .noticeRaise .condition ∈ m.transit := by decide

theorem test_plan_fails_beyond_budget :
    let b : Rec := { Rec.reset with state := .active, step := some .retrack, reqNum := 7, reqStep := some .retrack,
                                    outcome := some .failed, attempts := 4 }
    let t := after .recoverySet (inRecov b)
    t.recov.state = .failed ∧ t.recov.attempts = 4 ∧ .noticeRaise .recoveryEnd ∈ t.transit
      ∧ (after .recoverySet (inRecov { b with attempts := 3 })).recov.state = .active := by decide

/-! ## Loading Controller -/

theorem test_start_evaluation :
    let s := { inLoad { Load.reset with spindle := .stopped } with pins := { releasedPins with clamp := true } }
    let t := after .startEvaluation s
    t.load.state = .loaded ∧ .neighbourReport (.loading .loaded) ∈ t.transit
      ∧ (after .loadingSet { s with load := Load.reset }).load.state = .startEval := by decide

theorem test_eject_unloads :
    let t := after (.eject (cmd 0x51 4)) (inLoad { Load.reset with state := .loaded, seeded := true, spindle := .stopped })
    t.load.state = .unloadWait ∧ .loadingParkRequest ∈ t.transit ∧ .loadingStopRequest ∈ t.transit
      ∧ .abandonmentRequest ∈ t.transit ∧ t.load.motionTimer = some 0 := by decide

/-- R161: the entry to EJECTING is reported to the four blocks. -/
theorem test_ejecting_is_reported :
    let t := after (.eject (cmd 0x51 4)) (inLoad { Load.reset with state := .inserting, seeded := true, spindle := .stopped })
    t.load.state = .ejecting ∧ .neighbourReport (.loading .ejecting) ∈ t.transit
      ∧ .loadingStateReport .ejecting ∈ t.transit ∧ .recoveryViewReport (.loading .ejecting) ∈ t.transit
      ∧ .defectNeighbourReport (.loading .ejecting) ∈ t.transit := by decide

/-! ## Drive outputs and supply: the worked sequence of spec/10 section 10.5 -/

/-- FOCUS and TRACK buffered at 500 and −300, the rail at sp. -/
def railed (sp : Int) : Drive :=
  { Drive.reset with
    sp := sp, actuatorEnable := true, spindleEnable := true, supply := some .ok,
    focus := { Bridge.reset with buffered := 500 }, track := { Bridge.reset with buffered := -300 } }

/-- FOCUS and TRACK duties applied at the rail sp. -/
def appliedAt (sp : Int) : Option Int × Option Int :=
  ((after (.carrierUnderflow .focus) (inDrive (railed sp))).drive.focus.applied,
   (after (.carrierUnderflow .track) (inDrive (railed sp))).drive.track.applied)

theorem test_compensated_duties : appliedAt 1200 = (some 500, some (-300)) ∧ appliedAt 880 = (some 682, some (-409))
    ∧ appliedAt 740 = (some 811, some (-486)) := by decide

theorem test_supply_dips_and_returns :
    let dip := after (.supplySet { set0 with stamp := 63, refresh := some { sp := 880, tm := 0 } }) (inDrive (railed 1200))
    let low := after (.rideTimerExpiry set0)
      (inDrive { railed 740 with supply := some .dip, spindleEnable := false, ride := some 2499 })
    let ok := after (.restoreTimerExpiry set0) (inDrive { railed 1400 with
      supply := some .low, actuatorEnable := false, spindleEnable := false, restore := some 999 })
    dip.drive.supply = some .dip ∧ dip.drive.ride = some 0 ∧ dip.drive.spindleEnable = false
      ∧ low.drive.supply = some .low ∧ .condition .supplyLow ∈ low.transit ∧ low.drive.actuatorEnable = false
      ∧ ok.drive.supply = some .ok ∧ ok.drive.actuatorEnable = true ∧ ok.drive.spindleEnable = false := by decide

/-! ## Commands and the bus window: spec/11 -/

theorem test_post_and_offer :
    let s := after (.windowWrite 0x3E010 0x0001 Claims.both) { live with bus := { Bus.reset with area := 3 } }
    let t := after (.commandPost 1 0x0041) s
    t.cq.queue = [cmd 0x01 0x41] ∧ t.transit = [.nop (cmd 0x01 0x41)]
      ∧ (after (.nop (cmd 0x01 0x41)) t).cq.queue = []
      ∧ (after (.nop (cmd 0x01 0x41)) t).cq.ring.head? = some { tag := 0x41, code := 0x01, result := .ok, value := 0 }
      ∧ (after (.windowWrite 0x3E01E 0x0041 { lo := true, hi := false }) s).cq.queue = [] := by decide

theorem test_queue_full :
    let t := after (.commandPost 8 0x0048) (inQueue (List.replicate 8 (cmd 0x01 0x41)))
    t.cq.queue.length = 8 ∧ t.cq.count = 1 ∧ t.cq.ring.head? = some { tag := 0x48, code := 0, result := .queueFull, value := 0 }
      := by decide

theorem test_urgent_wrong_slot_and_reset_servo :
    (after (.urgentPost 0x0049) live).cq.ring.head? = some { tag := 0x49, code := 0, result := .wrongSlot, value := 0 }
      ∧ (let s := after (.windowWrite 0xE0F0 0x0070 Claims.both) (inQueue [cmd 0x21 0x40, cmd 0x01 0x41])
         let t := after (.urgentPost 0x0055) s
         t.cq.queue = [] ∧ t.cq.count = 3 ∧ .resetServoLoop ∈ t.transit) := by decide

theorem test_apply_parameters :
    let c := { cmd 0x02 7 with w1 := 0x0022 }
    let t := after (.applyParameters c) (inQueue [c])
    let u := after (.groupAppliedReport .shock 2) (after (.groupAppliedReport .track 1) t)
    t.cq.queue = [c] ∧ t.transit = [.loopGroupApply .track, .shockGroupApply]
      ∧ u.cq.queue = [] ∧ u.cq.ring.head? = some { tag := 7, code := 2, result := .okClamped, value := 3 } := by decide

theorem test_report_to_a_flushed_apply :
    let c := { cmd 0x02 7 with w1 := 0x0020 }
    let s := after (.applyParameters c) (inQueue [c])
    let f := after (.resetServo (cmd 0x70 8)) s
    let t := after (.applyParameters c) { f with cq := { f.cq with queue := [c] } }
    let u := after (.groupAppliedReport .shock 2) t
    t.cq.stale = [.shock] ∧ u.cq.applying = t.cq.applying ∧ u.cq.ring = t.cq.ring ∧ u.cq.queue = [c]
      ∧ (after (.groupAppliedReport .shock 2) u).cq.queue = [] := by decide

theorem test_group_handed_over_twice_is_reported_twice :
    let s := after (.loopGroupApply .track) (after (.loopGroupApply .track) live)
    s.loop.track.awaiting = 2
      ∧ (after (.loopSampleSet set0) s).transit.count (.groupAppliedReport .track (Claims.loopCount s 1)) = 2 := by decide

theorem test_open_leaves_a_lock_that_stands_in_off :
    let l : Loop := { Loop.reset with lock := true, request := some (.openWith 5) }
    (l.takeRequest true).1.lock = true ∧ (({ l with state := .closed } : Loop).takeRequest true).1.lock = false := by decide

theorem test_brake_drive_ends_at_limit_0 :
    let b : Spin := { clv 0 .braking 0 0 [] with brakeDrive := true, brakeTimer := some 2499, stopTimer := some 7, magnitude := 0,
                                                 work := none }
    let t := after (.brakeTimerExpiry set0) (inSpin b)
    t.spin.stopTimer = some 0 ∧ t.spin.brakeDrive = false := by decide

theorem test_snapshot_group :
    let s := { live with loop := { LoopProc.reset with sled := { Sled.reset with lastDuty := -5 } },
                         shock := { Shock.reset with count := 9 },
                         recov := { Rec.reset with lgp := { track := 12, valid := true, stamp := 3 } } }
    let a := after (.snapshotRead 0xEB78 Claims.both) s
    let b := after (.snapshotRead 0xEB7C Claims.both) { a with recov := Rec.reset }
    a.bus.answer = some (12, Claims.both) ∧ a.bus.snapshot.isSome = true
      ∧ b.bus.answer = some (3, Claims.both) ∧ b.bus.snapshot = none
      ∧ (after (.snapshotRead 0xE8F8 Claims.both) s).bus.answer = some (0xFFFB, Claims.both)
      ∧ (after (.snapshotRead 0xEB42 Claims.both) s).bus.answer = some (9, Claims.both) := by decide

theorem test_notice_repeats_and_clears :
    let t := after (.noticeRaise .cmdDone) (after (.noticeRaise .cmdDone) live)
    t.bus.notice = 0x0101 ∧ t.bus.noticeLine = true
      ∧ (after (.noticeWordRead Claims.both) t).bus.answer = some (0x0101, Claims.both)
      ∧ (after (.noticeWordRead Claims.both) t).bus.notice = 0 ∧ (after (.noticeWordRead Claims.both) t).bus.noticeLine = false
      := by decide

/-- The staging image after reset holds the defaults: group 3 as staged is the active group 3, nothing clamped. -/
theorem test_staged_defaults :
    stagedSpindleParams [] = (defaultSpindleParams, 0) ∧ stagedLoopParams [] 0 = (defaultLoopParams, 0)
      ∧ stagedPositionParams [] = (defaultPositionParams, 0) ∧ stagedSupplyParams [] = (defaultSupplyParams, 0)
      ∧ stagedCaptureParams [] = (defaultCaptureParams, 0) := by decide +kernel

/-! ## Trace Capture Unit: the worked sequence of spec/12 -/

theorem test_capture_cuts_at_trigger :
    let b : Capture := { Capture.reset with state := .triggerPending, oldest := 144, valid := 256 }
    let t := after (.captureSet { set0 with stamp := 7401 }) (inCap b)
    let e := after (.captureDone { set0 with stamp := 7592 })
      (inCap { b with state := .triggered, oldest := 80, valid := 255, trigger := some 144, post := some 1 })
    t.cap.oldest = 80 ∧ t.cap.valid = 65 ∧ t.cap.trigger = some 144 ∧ t.cap.post = some 191 ∧ t.cap.state = .triggered
      ∧ t.cap.buffer.word (0x1000 + 16 * 144) = 7401
      ∧ e.cap.state = .done ∧ e.cap.valid = 256 ∧ e.cap.buffer.word (0x1000 + 16 * 79) = 7592 := by decide

/-! ## Witnesses: the hypotheses of each statement are met, clause by clause -/

theorem test_witness_EventsChangeNothingInReset : State.reset.held = true ∧ Claims.actsInReset .recoverySet = false
    ∧ Claims.actsInReset (.noticeRaise .cmdDone) = false := by decide

/-- A state with an event in transit whose step goes on. -/
def busy : State := { live with transit := [.noticeRaise .supply] }

theorem test_witness_EveryStepKeepsBounds : Bounded busy ∧ step busy = .next (stepped busy) :=
  ⟨⟨by decide, by decide +kernel, by decide +kernel, by decide +kernel, by decide +kernel, by decide +kernel,
    by decide, by decide +kernel, by decide +kernel,
    ⟨by decide, by decide +kernel, fun h => absurd h (by decide +kernel)⟩,
    fun h => absurd h (by decide), (fun _ h => nomatch h), by decide, by decide, fun h => absurd h (by decide)⟩, rfl⟩

/-- A map of two entries of a track, and a report waiting. -/
def twoEntries : State :=
  { closing [{ track := 1, start := 5, len := 1, hits := 1, stamp := 0 },
             { track := 1, start := 9, len := 1, hits := 1, stamp := 0 }] 3 0 0 0 0 with pending := [.focusOutReport] }

theorem test_witness_EveryStepKeepsMapOrder :
    MapOrdered twoEntries ∧ step twoEntries = .next (stepped twoEntries) := by
  refine ⟨⟨?_, ?_, ?_, ?_⟩, rfl⟩
  · unfold Entry.below
    decide
  · refine List.Pairwise.cons (fun d hd _ a _ h => ?_) (List.Pairwise.cons (fun _ h => nomatch h) List.Pairwise.nil)
    cases List.mem_singleton.mp hd
    obtain ⟨h, k⟩ := h
    unfold Entry.covers at h k
    simp only at h k
    omega
  · unfold Entry.proper
    decide
  · intro r h
    cases h
    decide

theorem test_witness_EveryStepKeepsOutputRanges : OutputsInRange busy ∧ step busy = .next (stepped busy) := by
  refine ⟨⟨⟨by decide, ⟨by decide, by decide⟩, (fun v h => nomatch h)⟩,
    ⟨by decide, ⟨by decide, by decide⟩, (fun v h => nomatch h)⟩,
    ⟨by decide, by decide +kernel, by decide +kernel, (fun d h => nomatch h), (fun r h => nomatch h),
      ⟨by decide, by decide⟩⟩,
    by decide, ⟨by decide +kernel, by decide +kernel, ⟨by decide, by decide⟩⟩, (fun m h => nomatch h),
    ⟨⟨by decide, by decide⟩, (fun v h => nomatch h)⟩, ⟨⟨by decide, by decide⟩, (fun v h => nomatch h)⟩,
    ⟨⟨by decide, by decide⟩, (fun v h => nomatch h)⟩, ⟨⟨by decide, by decide⟩, (fun v h => nomatch h)⟩,
    ⟨by decide, by decide⟩, (fun p m h => nomatch h), ?_, (fun i h => nomatch h)⟩, rfl⟩
  intro i h
  cases List.mem_singleton.mp h
  trivial

theorem test_witness_SampleSetFormsAndHandsOnSet : live.held = false ∧ live.fe.calibration = none
    ∧ ∃ k, (inFe { FrontEnd.reset with
        calibration := some { tag := 1, count := 254, sumFe := 0, sumTe := 0, sumSh := 0 } }).fe.calibration = some k
      ∧ k.count + 1 < 256 := ⟨rfl, rfl, _, rfl, by decide⟩

theorem test_witness_LaserAndCalibrationRows : live.fe.calibration = none ∧ live.pos.state = .idle
    ∧ calibrating.held = false ∧ calibrating.fe.calibration.isSome = true
    ∧ (inPos (onTrack 1)).fe.calibration = none ∧ (inPos (onTrack 1)).pos.state ≠ .idle
    ∧ ∃ k, calibrating.fe.calibration = some k ∧ 255 ≤ k.count := by
  refine ⟨by decide, by decide, by decide, by decide, by decide, by decide, _, rfl, by decide⟩

theorem test_witness_LoopSampleRunsEachState :
    Claims.calm Loop.reset ∧ Claims.holdsOn Loop.reset ∧ live.loop.bandSet = false ∧ set0.refresh = none
      ∧ ({ set0 with refresh := some { sp := 0, tm := 0 } } : SampleSet).refresh = some { sp := 0, tm := 0 }
      ∧ Claims.holdsOn { Loop.reset with state := .hold, holdCount := 98,
                                         holds := { defect := true, predict := false, supply := false } }
      ∧ ({ Loop.reset with request := some .close } : Loop).request = some .close
      ∧ Loop.reset.awaiting = 0 ∧ Loop.reset.holds.any = false := by
  unfold Claims.calm Claims.holdsOn
  decide

theorem test_witness_HoldTimeoutAndLimitRunRaiseConditions :
    let hold : Loop := { Loop.reset with state := .hold, holdCount := 99,
                                         holds := { defect := true, predict := false, supply := false } }
    let run : Loop := { Loop.reset with
      state := .closed, limitCount := 199, params := { defaultLoopParams with bias := 801 } }
    Claims.calm hold ∧ hold.holds.any = true ∧ hold.params.holdMax ≤ satIncr hold.holdCount
      ∧ Claims.calm run ∧ run.holds.any = false ∧ run.params.limitRun ≤ satIncr run.limitCount
      ∧ ({ run with gainUse := run.gainReq }.compute 0 0).limited = true := by
  unfold Claims.calm
  decide

theorem test_witness_SledUpdateAndInnerLimit :
    let s := sledState 1000 false
    s.held = false ∧ Claims.calm s.loop.focus ∧ Claims.calm s.loop.track ∧ s.loop.sled.mode = .loop
      ∧ s.loop.sled.request = none ∧ s.loop.sled.awaiting = 0 ∧ s.loop.sled.phase = 7 ∧ s.loop.track.state = .closed
      ∧ s.loop.track.holds.any = false := by
  unfold Claims.calm
  decide

/-- Both loops as given, the sled as given. -/
def looping (focus track : Loop) (sled : Sled) : State :=
  inLoop { LoopProc.reset with focus := focus, track := track, sled := sled, band := 2, bandSet := true }

theorem test_witness_LoopSampleTakesRequestsAndSupply :
    let closed : Loop := { Loop.reset with state := .closed }
    let supplied : Loop := { closed with holds := { defect := true, predict := false, supply := true } }
    let leaving := looping { closed with request := some .off } closed Sled.reset
    let asking := looping Loop.reset { Loop.reset with request := some .close } Sled.reset
    let coming := looping { Loop.reset with request := some .close } { Loop.reset with request := some (.openWith 5) } Sled.reset
    (leaving.loop.focus.awaiting = 0
        ∧ Claims.holdsOn (Claims.afterSupply (Claims.afterRequest leaving.loop.focus))
        ∧ Claims.focusLeft leaving (after (.loopSampleSet set0) leaving)
        ∧ Claims.holdsOn (Claims.afterSupply (Claims.requested leaving.loop.track .off)))
      ∧ (Claims.holdsOn (Claims.afterSupply (Claims.afterRequest supplied))
        ∧ Claims.focusLeft (looping supplied closed Sled.reset)
            (after (.loopSampleSet set0) (looping supplied closed Sled.reset)))
      ∧ (¬ Claims.focusLeft asking (after (.loopSampleSet set0) asking)
        ∧ ¬ Claims.closedOrHold (after (.loopSampleSet set0) asking).loop.focus ∧ asking.loop.track.request ≠ none
        ∧ asking.loop.track.request ≠ some .off
        ∧ Claims.holdsOn (Claims.afterSupply (Claims.requested asking.loop.track .off)))
      ∧ (¬ Claims.closedOrHold coming.loop.focus ∧ ¬ Claims.focusLeft coming (after (.loopSampleSet set0) coming)
        ∧ Claims.closedOrHold (after (.loopSampleSet set0) coming).loop.focus
        ∧ Claims.holdsOn (Claims.afterSupply (Claims.afterRequest coming.loop.track))) := by
  unfold Claims.focusLeft Claims.closedOrHold Claims.holdsOn
  refine ⟨?_, ?_, ?_, ?_⟩ <;> decide

theorem test_witness_BandMovesWithHysteresis :
    let s := looping Loop.reset Loop.reset Sled.reset
    s.loop.bandSet = true ∧ s.loop.band ≤ 5 ∧ s.loop.band < 5
      ∧ Claims.threshold s.loop.temp (s.loop.band + 1) ≤ 2000 ∧ 1999 < Claims.threshold s.loop.temp (s.loop.band + 1) := by
  decide

theorem test_witness_SledStepRunsEachMode :
    let closed : Loop := { Loop.reset with state := .closed }
    let summing := looping Loop.reset closed { Sled.reset with phase := 6 }
    let driven : Sled := { Sled.reset with mode := .driven (-7) }
    let dropped := looping { closed with request := some .off } closed driven
    (summing.loop.sled.awaiting = 0 ∧ summing.loop.sled.mode = .loop ∧ summing.loop.sled.request = none
        ∧ (after (.loopSampleSet set0) summing).loop.track.state = .closed ∧ summing.loop.sled.phase < 7)
      ∧ (after (.loopSampleSet set0) live).loop.track.state ≠ .closed
      ∧ (driven.mode = .driven (-7) ∧ driven.request = none
        ∧ ¬ Claims.trackDropped (looping Loop.reset closed driven)
            (after (.loopSampleSet set0) (looping Loop.reset closed driven))
        ∧ Claims.trackDropped dropped (after (.loopSampleSet set0) dropped))
      ∧ ({ Sled.reset with request := some (.driven 9) } : Sled).request = some (.driven 9)
      ∧ ({ driven with request := some .toLoop } : Sled).request = some .toLoop := by
  unfold Claims.trackDropped Claims.focusLeft Claims.closedOrHold
  decide

theorem test_witness_GroupsApplyStagedValuesInRange :
    live.spin.state ≠ .slewing ∧ live.spin.state ≠ .regulating
      ∧ (inSpin (clv 0 .slewing 0 0 [])).spin.state = .slewing ∧ (inSpin (clv 0 .regulating 0 0 [])).spin.state = .regulating
      ∧ ¬(live.recov.state = .active ∧ (Claims.recoveryGroup live).budget < live.recov.attempts)
      ∧ (let s := inRecov { Rec.reset with state := .active, attempts := 5 }
         s.recov.state = .active ∧ (Claims.recoveryGroup s).budget < s.recov.attempts)
      ∧ (let s := inSpin { clv 0 .slewing 0 0 [] with awaiting := 1 }
         s.spin.awaiting ≠ 0 ∧ Claims.forward s.spin.hall 3 ∧ s.spin.refTime = some 0 ∧ s.spin.phase = 5)
      ∧ ({ Loop.reset with awaiting := 1 } : Loop).awaiting ≠ 0
      ∧ ({ Sled.reset with awaiting := 1 } : Sled).awaiting ≠ 0 := by
  unfold Claims.forward
  decide

/-- A group 3 waits in REGULATING, and the supply report LOW leaves it. -/
theorem test_witness_WaitingGroupAppliesWhereTheLoopIsLeft :
    let s := inSpin { clv 0 .regulating 0 0 [] with awaiting := 1, params := { defaultSpindleParams with kp := 7 } }
    let t := after (.supplyStateReport .low) s
    s.held = false ∧ s.spin.awaiting ≠ 0 ∧ Claims.looping s.spin.state ∧ Claims.spindleRow (.supplyStateReport .low) = true
      ∧ ¬ Claims.looping t.spin.state ∧ t.spin.params.kp = 400 ∧ t.spin.awaiting = 0 := by
  unfold Claims.looping
  decide

/-- R122, R130, R152: RESET SERVO in REGULATING, and in FAILED. -/
theorem test_reset_servo_records :
    let s := inSpin { clv 0 .regulating 9 0 [] with respin := some 3 }
    let t := after .resetServoSpindle s
    let r := inRecov { Rec.reset with state := .failed, attempts := 5, nested := true, lastCondition := some .spindleFault }
    t.spin = { Claims.spinReset s with pattern := .reverse 1, magnitude := 1000, stopTimer := none }
      ∧ t.spin.state = .braking ∧ t.spin.brakeDrive = true ∧ t.spin.brakeTimer = some 0 ∧ t.spin.awaiting = 0
      ∧ (after .resetServoRecovery r).recov = Claims.recovReset r.recov
      ∧ (after .resetServoRecovery r).recov.attempts = 5 := by decide

theorem test_witness_CrossingDetectorCountsTracks :
    let s := inPos (onTrack 100)
    s.held = false ∧ s.pos.state = .onTrack ∧ s.pos.motion = none ∧ Claims.bright s.pos bright0
      ∧ Claims.crosses s.pos { bright0 with te := 151 } ∧ ¬ Claims.crosses s.pos { bright0 with te := 150 }
      ∧ live.pos.state = .idle ∧ Claims.bright live.pos set0 ∧ (inPos { onTrack 1 with state := .focused }).pos.state = .focused
      := by
  unfold Claims.bright Claims.crosses
  decide

/-- A crossing in SEEKING, and a set without one. -/
theorem test_witness_CrossingsInEveryState :
    let s := inPos { onTrack 100 with state := .seeking }
    s.held = false ∧ s.pos.state = .seeking ∧ Claims.crosses s.pos { bright0 with te := 151 }
      ∧ ¬ Claims.crosses s.pos { bright0 with te := 150 } := by
  unfold Claims.crosses
  decide

/-- A focus search going down. -/
def searching (drive : Int) (sweeps : Nat) : State :=
  inPos { Pos.reset with
    state := .focusSearch, search := some { drive := drive, up := false, sweeps := sweeps }, prevFe := some (-1),
    work := some { kind := .focusSearch, origin := .command 1 0x20 } }

theorem test_witness_FocusSearchMovesAndCloses :
    let s := searching (-600) 3
    s.held = false ∧ s.pos.state = .focusSearch ∧ s.pos.search = some { drive := -600, up := false, sweeps := 3 }
      ∧ Claims.pullIn s.pos { set0 with rs := 801, fe := 1 } ∧ ¬ Claims.pullIn s.pos { set0 with rs := 800 }
      ∧ (0 : Int) ≠ Claims.traverse s.pos false ∧ (-600 : Int) = Claims.traverse s.pos false
      ∧ 2 < s.pos.params.searchSweeps ∧ s.pos.params.searchSweeps ≤ 3 := by
  refine ⟨rfl, rfl, rfl, ⟨by decide, Or.inr ⟨-1, rfl, Or.inl ⟨by decide, by decide⟩⟩⟩, ?_, by decide, by decide, by decide,
    by decide⟩
  intro h
  exact absurd h.1 (by decide)

theorem test_witness_FocusLocksIsAbandonedOrLost :
    let b : Pos := { Pos.reset with
      state := .focusLocking, search := some { drive := 5, up := true, sweeps := 1 }, lockRun := 19, lossRun := 9,
      views := { Pos.reset.views with focus := .closed } }
    (inPos b).held = false ∧ b.views.focus = .closed ∧ b.state = .focusLocking ∧ b.search.isSome = true
      ∧ (199 : Int).natAbs < b.params.feWindow ∧ (b.params.focusLoss : Int) < 401 ∧ b.params.lockRun ≤ satIncr b.lockRun
      ∧ 400 ≤ (b.params.focusLoss : Int) ∧ b.params.lossRun ≤ satIncr b.lossRun
      ∧ (onTrack 1).state ≠ .idle ∧ (onTrack 1).state ≠ .focusSearch ∧ (onTrack 1).state ≠ .focusLocking
      ∧ (onTrack 1).state ≠ .parking := by decide

/-- The runs of FOCUS_LOCKING and of the loss detector at sets that end nothing (R45, R46). -/
theorem test_witness_FocusRunsAreCounted :
    let b : Pos := { Pos.reset with
      state := .focusLocking, search := some { drive := 5, up := true, sweeps := 1 }, lockRun := 18, lossRun := 8,
      views := { Pos.reset.views with focus := .closed } }
    let dim : SampleSet := { set0 with rs := 400 }
    let track : Pos := { onTrack 1 with lossRun := 8 }
    (b.state = .focusLocking ∧ b.views.focus = .closed ∧ b.search.isSome = true)
      ∧ (Claims.goodSet b { set0 with fe := 199, rs := 401 } ∧ satIncr b.lockRun < b.params.lockRun)
      ∧ (Claims.dimSet b dim ∧ satIncr b.lossRun < b.params.lossRun)
      ∧ (¬ Claims.goodSet b { set0 with fe := 200, rs := 401 } ∧ ¬ Claims.dimSet b { set0 with fe := 200, rs := 401 })
      ∧ (Claims.watchesFocus track ∧ track.state ≠ .focused ∧ track.views.focus = .closed ∧ Claims.dimSet track dim
        ∧ satIncr track.lossRun < track.params.lossRun ∧ ¬ Claims.dimSet track bright0)
      ∧ (after (.positionSet dim) (inPos b)).pos.lossRun = 9
      ∧ (after (.positionSet dim) (inPos { b with views := { b.views with focus := .hold } })).pos.lossRun = 8
      ∧ (after (.positionSet dim) (inPos { b with views := { b.views with focus := .opened } })).pos.lockRun = 18 := by
  unfold Claims.goodSet Claims.dimSet Claims.watchesFocus
  decide

/-- A pull-in. -/
def pulling (p : PullIn) : Pos := { onTrack 7 with state := .trackPullin, pull := some p }

theorem test_witness_PullInClosesLocksOrTimesOut :
    let open_ : PullIn := { quiet := 24, lastCross := 0, lockRun := 0, elapsed := 9998, closed := false }
    let closed : PullIn := { quiet := 24, lastCross := 0, lockRun := 19, elapsed := 9999, closed := true }
    let b := pulling open_
    (inPos b).held = false ∧ Claims.bright b bright0 ∧ b.state = .trackPullin ∧ b.pull = some open_ ∧ b.views.held = false
      ∧ open_.elapsed + 1 < 50 * b.params.retrackTimeout ∧ ¬ Claims.crosses b bright0
      ∧ b.params.pullinInterval ≤ satIncr open_.quiet
      ∧ Claims.crosses b { bright0 with te := 151, stamp := 25 }
      ∧ b.params.pullinInterval ≤ ((25 : Word) - open_.lastCross).toNat
      ∧ b.views.track = .closed ∧ (299 : Int).natAbs < b.params.teWindow ∧ b.params.lockRun ≤ satIncr closed.lockRun
      ∧ 50 * b.params.retrackTimeout ≤ closed.elapsed + 1 ∧ ¬ Claims.pullLocks b { bright0 with te := 300 } closed := by
  unfold Claims.bright Claims.pullLocks Claims.crosses
  decide

/-- A pull-in or catch at sets at which it neither closes, locks nor times out (R48 to R50). -/
theorem test_witness_PullInIsCounted :
    let open_ : PullIn := { quiet := 23, lastCross := 0, lockRun := 0, elapsed := 9998, closed := false }
    let closed : PullIn := { open_ with lockRun := 18, closed := true }
    let b := pulling open_
    let cross : SampleSet := { bright0 with te := 151, stamp := 24 }
    (¬ Claims.pullCloses b bright0 open_ ∧ ¬ Claims.pullCloses b cross open_ ∧ ¬ Claims.pullLocks b bright0 open_
        ∧ Claims.crosses b cross ∧ open_.elapsed + 1 < 50 * b.params.retrackTimeout)
      ∧ (¬ Claims.pullCloses b bright0 closed ∧ ¬ Claims.pullLocks b bright0 closed)
      ∧ Claims.pullCloses b bright0 { open_ with quiet := 24 } ∧ Claims.pullCloses b { cross with stamp := 25 } open_ := by
  unfold Claims.pullCloses Claims.pullLocks Claims.crosses
  refine ⟨⟨?_, ?_, ?_, ?_, ?_⟩, ⟨?_, ?_⟩, ?_, ?_⟩ <;> decide

theorem test_pull_in_counts :
    let open_ : PullIn := { quiet := 23, lastCross := 0, lockRun := 0, elapsed := 9998, closed := false }
    let closed : PullIn := { open_ with lockRun := 18, closed := true }
    let b := pulling open_
    let cross : SampleSet := { bright0 with te := 151, stamp := 24 }
    (after (.positionSet bright0) (inPos b)).pos.pull = some { open_ with quiet := 24, elapsed := 9999 }
      ∧ (after (.positionSet cross) (inPos b)).pos.pull = some { open_ with quiet := 0, lastCross := 24, elapsed := 9999 }
      ∧ (after (.positionSet bright0) (inPos (pulling closed))).pos.pull = some { closed with lockRun := 19, elapsed := 9999 }
      ∧ (after (.positionSet cross) (inPos (pulling closed))).pos.pull = some { closed with lockRun := 0, elapsed := 9999 }
      := by decide

theorem test_witness_JumpKicksBrakesAndLands :
    let b := kicking.pos
    let m : Motion := { jump2 with jumpCount := 1 }
    kicking.held = false ∧ Claims.bright b { bright0 with te := 151 } ∧ b.state = .jumping ∧ b.motion = some m
      ∧ Claims.inTime b m ∧ m.phase = .kick ∧ Claims.crosses b { bright0 with te := 151 }
      ∧ Claims.dirOf b { bright0 with te := 151 } = m.dir ∧ m.jumpCount ≤ 1 ∧ b.params.jumpBrakeTime ≠ 0
      ∧ m.jumpTimer = some 0 ∧ 198 + 1 < m.jumpSets ∧ m.jumpSets ≤ 199 + 1 ∧ ¬ Claims.crosses b bright0
      ∧ b.params.jumpBrakeTime ≤ 7 + 1 := by
  unfold Claims.bright Claims.inTime Claims.crosses Claims.dirOf
  decide

/-- A seek's motion record in a phase. -/
def seekIn (p : Phase) : Motion :=
  { jump2 with isSeek := true, phase := p, seekTarget := 100, jumpTimer := none, seekTimer := 74998, settleCount := 99,
               brakeCount := 249,
               pull := some { quiet := 0, lastCross := 0, lockRun := 19, elapsed := 9999, closed := true } }

theorem test_witness_LandingCatchesSettlesAndCompares :
    let b : Pos := { onTrack 100 with state := .settling, motion := some (seekIn .landing) }
    (inPos b).held = false ∧ Claims.bright b bright0 ∧ b.state = .settling ∧ b.motion = some (seekIn .landing)
      ∧ Claims.inTime b (seekIn .landing) ∧ b.views.track = .closed ∧ ¬ Claims.crosses b bright0
      ∧ bright0.te.natAbs < b.params.teWindow ∧ b.params.lockRun ≤ satIncr 19 ∧ b.params.settle ≠ 0
      ∧ 50 * b.params.retrackTimeout ≤ 9999 + 1
      ∧ ¬ Claims.pullLocks { b with views := { b.views with track := .opened } } bright0
          { quiet := 0, lastCross := 0, lockRun := 19, elapsed := 9999, closed := true }
      ∧ Claims.pullLocks b bright0 { quiet := 0, lastCross := 0, lockRun := 19, elapsed := 9999, closed := true }
      ∧ ({ b.params with settle := 0 } : PositionParams).settle = 0
      ∧ 9998 + 1 < 50 * b.params.retrackTimeout ∧ 98 + 1 < b.params.settle
      ∧ b.params.settle ≤ (seekIn .settle).settleCount + 1
      ∧ (seekIn .settle).isSeek = true ∧ b.valid = true ∧ (seekIn .settle).seekTarget = b.counter
      ∧ ({ b with valid := false } : Pos).valid = false
      ∧ jump2.isSeek = false ∧ jump2.timedOut = false ∧ jump2.corrections = 0 := by
  unfold Claims.bright Claims.inTime Claims.pullLocks Claims.crosses
  decide

theorem test_witness_SledBrakeEndsAndSeekTimesOut :
    let b : Pos := { onTrack 100 with state := .seekBrake, motion := some (seekIn .sledBrake) }
    Claims.bright b bright0 ∧ b.motion = some (seekIn .sledBrake) ∧ (seekIn .sledBrake).phase = .sledBrake
      ∧ Claims.inTime b (seekIn .sledBrake) ∧ live.loop.sled.params.brakeTime ≤ (seekIn .sledBrake).brakeCount + 1
      ∧ 50 * b.params.seekTimeout ≤ 74999 + 1 ∧ ¬ Claims.crosses b bright0
      ∧ ({ b with state := .seeking } : Pos).state = .seeking ∧ (seekIn .run).phase = .run := by
  unfold Claims.bright Claims.inTime Claims.crosses
  decide

/-- A motion in its position state, the counter at n. -/
def moving (n : Nat) (m : Motion) : Pos := { onTrack n with state := Claims.stateOfPhase m.phase, motion := some m }

/-- A crossing outward, and one inward. -/
def outward : SampleSet := { bright0 with te := 151 }
def inward : SampleSet := { bright0 with te := 151, rs := 1499 }

theorem test_witness_JumpPhasesGoOnOrAreCut :
    let k := moving 101 jump2
    let noBrake : Pos := { k with motion := some { jump2 with jumpCount := 1 }, params := { k.params with jumpBrakeTime := 0 } }
    let b := moving 101 { jump2 with phase := .brake, brakeCount := 6 }
    let cut := moving 101 { jump2 with phase := .brake, brakeCount := 6, jumpTimer := some 199 }
    (Claims.bright k outward ∧ k.state = .jumping ∧ Claims.inTime k jump2 ∧ jump2.phase = .kick ∧ 0 + 1 < jump2.jumpSets
        ∧ Claims.crosses k outward ∧ Claims.dirOf k outward = jump2.dir ∧ 1 < jump2.jumpCount)
      ∧ (Claims.bright k inward ∧ Claims.crosses k inward ∧ Claims.dirOf k inward ≠ jump2.dir) ∧ ¬ Claims.crosses k bright0
      ∧ (Claims.crosses noBrake outward ∧ Claims.dirOf noBrake outward = jump2.dir ∧ noBrake.params.jumpBrakeTime = 0)
      ∧ (b.state = .jumping ∧ 6 + 1 < b.params.jumpBrakeTime) ∧ (cut.state = .jumping ∧ jump2.jumpSets ≤ 199 + 1) := by
  unfold Claims.bright Claims.inTime Claims.crosses Claims.dirOf
  decide

/-- A settled seek of target 100, with this many corrections, and retargeted or not. -/
def settledSeek (corrections : Nat) (retargeted : Bool) : Motion :=
  { seekIn .settle with corrections := corrections, retargeted := retargeted }

theorem test_witness_LandingComparison :
    let b := moving 97 (settledSeek 0 false)
    let lost : Motion := { jump2 with phase := .settle, timedOut := true, jumpTarget := none, settleCount := 99 }
    let late : Motion := { lost with jumpTarget := some 102 }
    (Claims.bright b bright0 ∧ b.state = .settling ∧ Claims.inTime b (settledSeek 0 false)
        ∧ b.params.settle ≤ (settledSeek 0 false).settleCount + 1 ∧ ¬ Claims.crosses b bright0
        ∧ Claims.comparedWith (settledSeek 0 false) 100 ∧ b.valid = true ∧ ((100 : Int) - (97 : Nat) ≠ 0)
        ∧ ((100 : Int) - (97 : Nat)).natAbs ≤ 16 ∧ (settledSeek 0 false).corrections < 2)
      ∧ (Claims.comparedWith (settledSeek 2 false) 100 ∧ 2 ≤ (settledSeek 2 false).corrections)
      ∧ (Claims.comparedWith (settledSeek 0 true) 100 ∧ 16 < ((100 : Int) - (83 : Nat)).natAbs
        ∧ (settledSeek 0 true).retargeted = true ∧ (settledSeek 0 true).isSeek = true
        ∧ (settledSeek 0 false).retargeted = false)
      ∧ (Claims.comparedWith late 102 ∧ Claims.inTime (moving 102 late) late ∧ (moving 102 late).params.settle ≤ 99 + 1)
      ∧ (lost.isSeek = false ∧ lost.timedOut = true ∧ lost.jumpTarget = none)
      ∧ ({ b with valid := false } : Pos).valid = false := by
  unfold Claims.bright Claims.inTime Claims.crosses Claims.comparedWith
  decide

theorem test_witness_RunBrakesAtDistance :
    let run := seekIn .run
    let near := moving 5 run
    let instant := { inPos near with loop := { LoopProc.reset with
      sled := { Sled.reset with params := { defaultSledParams with brakeTime := 0 } } } }
    let far := moving 5 { run with seekTarget := 300 }
    let brake := moving 5 { seekIn .sledBrake with brakeCount := 248 }
    (Claims.bright near outward ∧ Claims.inTime near run ∧ near.state = .seeking ∧ Claims.crosses near outward
        ∧ Claims.remainingAfter near outward run ≤ near.params.brakeDist ∧ live.loop.sled.params.brakeTime ≠ 0)
      ∧ instant.loop.sled.params.brakeTime = 0
      ∧ (near.params.brakeDist : Int) < Claims.remainingAfter far outward { run with seekTarget := 300 }
      ∧ (brake.state = .seekBrake ∧ Claims.inTime brake (seekIn .sledBrake)
        ∧ 248 + 1 < live.loop.sled.params.brakeTime) := by
  unfold Claims.bright Claims.inTime Claims.crosses
  decide

/-- A seek whose timer ends at the next set, in a phase that goes on. -/
def expiring (p : Phase) : Motion :=
  { seekIn p with seekTimer := 74999, brakeCount := 3, settleCount := 3, jumpTimer := some 3,
                  pull := some { quiet := 0, lastCross := 0, lockRun := 0, elapsed := 3, closed := false } }

theorem test_witness_SeekTimerEndsEveryPhase :
    ∀ p ∈ [Phase.kick, .brake, .run, .sledBrake, .landing, .settle],
      Claims.bright (moving 5 (expiring p)) bright0 ∧ (expiring p).isSeek = true
        ∧ 50 * (moving 5 (expiring p)).params.seekTimeout ≤ (expiring p).seekTimer + 1
        ∧ ¬ Claims.crosses (moving 5 (expiring p)) bright0
        ∧ Claims.phaseGoesOn (inPos (moving 5 (expiring p))) (expiring p) := by
  intro p h
  refine ⟨?_, rfl, ?_, ?_, ?_⟩
  · unfold Claims.bright
    decide +revert +kernel
  · decide +revert +kernel
  · unfold Claims.crosses
    decide +revert +kernel
  · cases p
    · exact ⟨3, rfl, by decide⟩
    · exact ⟨by decide, 3, rfl, by decide⟩
    · trivial
    · show 3 + 1 < _
      decide
    · exact ⟨_, rfl, rfl, by decide, by decide⟩
    · show 3 + 1 < _
      decide

theorem test_witness_ParkBeginsEndsHomeOrTimesOut :
    let b : Pos := { Pos.reset with state := .parking, parkTimer := some 99999,
                                    work := some { kind := .park, origin := .command 1 0x27 } }
    b.state = .parking ∧ ({ releasedPins with sledHome := true } : Pins).sledHome = true ∧ live.pins.sledHome = false
      ∧ 100000 ≤ b.parkTimer.getD 0 + 1 ∧ 99998 + 1 < 100000 ∧ b.hostWork = true
      ∧ ({ b with work := some { kind := .park, origin := .loading } } : Pos).hostWork = false
      ∧ b.views.recovery ≠ .active ∧ live.pos.state ≠ .parking
      ∧ ({ b.views with recovery := .active } : PosViews).recovery = .active := by decide

theorem test_witness_PositionTakesReports :
    let b := onTrack 1
    let settled : Pos := { b with state := .settling, motion := some (seekIn .settle) }
    let unfocused : Pos := { b with views := { b.views with focus := .off } }
    b.views.track = .closed ∧ live.pos.views.track = .off ∧ live.pos.state = .idle ∧ b.state ≠ .idle ∧ b.state ≠ .parking
      ∧ Claims.needsTrack b ∧ b.views.focus ≠ .off ∧ ¬ Claims.needsTrack live.pos
      ∧ (settled.state = .settling ∧ Claims.settleLost settled .opened)
      ∧ (Claims.usesTrack b ∧ b.views.focus ≠ .off) ∧ (Claims.usesTrack unfocused ∧ unfocused.views.focus = .off)
      ∧ ¬ Claims.settleLost b .opened := by
  refine ⟨rfl, rfl, rfl, by decide, by decide, Or.inl rfl, by decide, ?_, ⟨rfl, rfl, Or.inl rfl, _, rfl, rfl⟩,
    ⟨Or.inr (Or.inl rfl), by decide⟩, ⟨Or.inr (Or.inl rfl), rfl⟩, ?_⟩
  · rintro (h | h | h | h | h | ⟨h, _⟩) <;> cases h
  · rintro ⟨_, _, m, h, _⟩
    cases h

/-- A park in flight. -/
def parked : State :=
  inPos { Pos.reset with state := .parking, parkTimer := some 5, work := some { kind := .park, origin := .command 1 0x27 } }

/-- R55, R57: an abort in PARKING ends the park INTERRUPTED. -/
theorem test_abort_in_parking :
    let t := after .recoveryAbort parked
    t.pos.state = .idle ∧ t.pos.parkTimer = none ∧ t.pos.work = none ∧ .sledRequest .toLoop ∈ t.transit
      ∧ .completion { tag := 1, code := 0x27, result := .interrupted, value := 0 } ∈ t.transit := by decide

theorem test_witness_RecoveryRequestsMoveThePosition :
    (searching 0 0).pos.state = .focusSearch ∧ (pulling { quiet := 0, lastCross := 0, lockRun := 0, elapsed := 0, closed := false
        }).state = .trackPullin
      ∧ kicking.pos.state = .jumping ∧ kicking.pos.motion.isSome = true ∧ live.pos.state = .idle ∧ live.pos.motion = none
      ∧ (onTrack 1).state = .onTrack ∧ (onTrack 1).valid = true ∧ live.pos.valid = false
      ∧ Claims.turning { onTrack 1 with state := .focused } ∧ ¬ Claims.turning { live.pos with state := .focused }
      ∧ parked.pos.state = .parking ∧ parked.held = false
      ∧ min 1 (onTrack 1).params.trackMax = (onTrack 1).counter ∧ min 65535 (onTrack 1).params.trackMax ≠ (onTrack 1).counter
      := by
  unfold Claims.turning
  decide

theorem test_witness_SecondSeekRequest :
    let m := seekIn .run
    let b : Pos := { moving 50 m with work := some { kind := .seek, origin := .recovery 7 } }
    b.valid = true ∧ b.state ≠ .onTrack ∧ b.work = some { kind := .seek, origin := .recovery 7 } ∧ b.motion = some m
      ∧ m.isSeek = true ∧ min 60 b.params.trackMax ≠ b.counter ∧ min 50 b.params.trackMax = b.counter := by decide

/-- R74: a second seek request with no way to go reports DONE at once. -/
theorem test_second_seek_without_way :
    let b : Pos := { moving 50 (seekIn .run) with work := some { kind := .seek, origin := .recovery 7 } }
    let t := after (.recoverySeek 8 50) (inPos b)
    .stepReport 8 .done ∈ t.transit ∧ t.pos.motion = none ∧ t.pos.state = .trackPullin := by decide

/-- R67: a tracking loop that opens in SETTLE drops the landing. -/
theorem test_settle_opened_is_lost :
    let t := after (.loopStateReport (.state .track .opened false)) (inPos (moving 100 (seekIn .settle)))
    t.pos.state = .focused ∧ t.pos.motion = none := by decide

theorem test_witness_CommandsOfThePosition :
    let active : Pos := { onTrack 1 with views := { (onTrack 1).views with recovery := .active } }
    active.views.recovery = .active ∧ (onTrack 1).views.recovery ≠ .active ∧ live.pos.views.loading ≠ .loaded
      ∧ (onTrack 1).views.loading = .loaded ∧ Claims.usesTrack (onTrack 1) ∧ ¬ Claims.usesTrack live.pos
      ∧ (searching 0 0).pos.state = .focusSearch ∧ live.pos.views.calibrating = false
      ∧ Claims.turning (onTrack 1) ∧ ¬ Claims.turning live.pos := by
  unfold Claims.usesTrack Claims.turning
  decide

theorem test_witness_JumpAndSeekBeginMotions :
    let far := { cmd 0x24 1 with w1 := 17 }
    let seek : Pos := { onTrack 100 with state := .seeking, motion := some (seekIn .run),
                                         work := some { kind := .seek, origin := .command 2 0x25 } }
    16 < far.w1.toInt.natAbs ∧ (cmd 0x24 1).w1.toInt = 0 ∧ ({ far with w1 := 16 } : Posted).w1.toInt.natAbs ≤ 16
      ∧ ({ far with w1 := 0xFFFF } : Posted).w1.toInt = -1 ∧ kicking.pos.motion.isSome = true
      ∧ (onTrack 1).motion = none ∧ (onTrack 1).state = .onTrack ∧ live.pos.state ≠ .onTrack ∧ (onTrack 1).valid = true
      ∧ min (65536 * 0 + 1) (onTrack 1).params.trackMax = (onTrack 1).counter
      ∧ min (65536 * 1 + 0) (onTrack 1).params.trackMax ≠ (onTrack 1).counter
      ∧ seek.motion = some (seekIn .run) ∧ (seekIn .run).isSeek = true ∧ seek.hostWork = true ∧ seek.state ≠ .jumping
      := by decide

theorem test_witness_RetargetFollowsThePhase :
    let c (w : Word) : Posted := { cmd 0x25 1 with w2 := w }
    let flying (p : Phase) : Pos := { moving 50 (seekIn p) with work := some { kind := .seek, origin := .command 2 0x25 } }
    let b := flying .run
    (min (65536 * (c 300).w1.toNat + (c 300).w2.toNat) b.params.trackMax = 300 ∧ b.views.recovery ≠ .active
        ∧ (seekIn .run).isSeek = true ∧ b.hostWork = true
        ∧ (b.params.brakeDist : Int) < (seekIn .run).dir * ((300 : Nat) - (50 : Nat) : Int))
      ∧ (seekIn .run).dir * ((40 : Nat) - (50 : Nat) : Int) ≤ b.params.brakeDist ∧ live.loop.sled.params.brakeTime ≠ 0
      ∧ ({ defaultSledParams with brakeTime := 0 } : SledParams).brakeTime = 0
      ∧ (flying .sledBrake).state = .seekBrake ∧ (flying .landing).state = .settling ∧ (flying .settle).state = .settling
      ∧ (flying .settle).hostWork = true := by decide

theorem test_witness_ReferenceAndStopAreTakenAtOnce :
    live.pos.state ≠ .onTrack ∧ live.pos.state ≠ .settling ∧ live.pos.views.refWait = false
      ∧ ({ live.pos.views with refWait := true } : PosViews).refWait = true ∧ live.pos.valid = false
      ∧ (onTrack 1).state = .onTrack ∧ (onTrack 1).valid = true ∧ kicking.pos.motion.isSome = true := by decide

theorem test_witness_DetectorCountsAndMovesBaseline :
    let b := clear2000
    Claims.windowIdle (inDefect b) ∧ Claims.windowIdle (passing 1983 none 1) ∧ ¬ Claims.windowIdle (passing 1984 none 1)
      ∧ live.defect.det = .inactive ∧ b.det ≠ .inactive ∧ ({ b with pendingInit := true } : Def).pendingInit = true
      ∧ b.det = .clear ∧ b.pendingInit = false ∧ (b.params.depth : Int) ≤ Claims.depthOf b { set0 with rs := 1700 }
      ∧ 1 + 1 < b.params.filter ∧ ¬ ((b.params.depth : Int) ≤ Claims.depthOf b { set0 with rs := 1701 })
      ∧ Claims.depthOf b { set0 with rs := 1761 } < (b.params.depth : Int) - b.params.hyst
      ∧ ({ b with det := .opened } : Def).det = .opened := by
  unfold Claims.windowIdle Claims.predicting Claims.guardsNow Claims.guards Claims.angleNow Claims.depthOf
  decide

theorem test_witness_DefectOpensClosesAndIsLearned :
    let s := closing [] 1400 5200 20 143 412
    let r : OpenRec := { track := 1400, trackKnown := true, start := 5200, startKnown := true, markers := 0, usable := true }
    s.held = false ∧ s.defect.pendingInit = false ∧ s.defect.det = .opened ∧ s.defect.openRec = some r
      ∧ Claims.depthOf s.defect { set0 with rs := 1761 } < (s.defect.params.depth : Int) - s.defect.params.hyst
      ∧ s.defect.params.filter ≤ s.defect.closeRun + 1 ∧ s.defect.window = none ∧ Claims.learned s.defect r
      ∧ ¬ Claims.learned s.defect { r with usable := false } ∧ s.defect.map.length < 32
      ∧ (s.defect.params.depth : Int) ≤ Claims.depthOf clear2000 { set0 with rs := 1700 } ∧ clear2000.det = .clear
      ∧ clear2000.params.beta ≤ 199 + 1 := by
  unfold Claims.depthOf Claims.learned
  decide

/-- With the default D.PREHOLD a window is open while the defect is, and has seen it. -/
theorem test_witness_windowSaw :
    let v : Window := { track := 1400, start := 5200, seen := true }
    let s := closing [] 1400 5200 20 143 412
    Claims.windowSaw { s.defect with window := some v, params := defaultDefectParams } ∧ Claims.windowSaw s.defect :=
  ⟨fun _ h => by cases h; rfl, fun _ h => nomatch h⟩

theorem test_witness_LearnedDefectIsMergedOrInserted :
    let e : Entry := { track := 1250, start := 1000, len := 60, hits := 3, stamp := 380 }
    let weak : Entry := { track := 1380, start := 4000, len := 12, hits := 1, stamp := 65500 }
    let far : OpenRec := { track := 1400, trackKnown := true, start := 5200, startKnown := true, markers := 0, usable := true }
    let near : OpenRec := { far with track := 1250, start := 1070 }
    let merging := closing [e] 1250 1070 4 76 430
    let inserting := closing [e] 1400 5200 20 143 412
    let full := closing fullMap 1400 5200 20 143 412
    (Claims.learned merging.defect near ∧ (e ∈ merging.defect.map ∧ e.track = near.track.toNat
        ∧ Claims.gapFrom e.start e.len near.start ≤ merging.defect.params.mergeGap) ∧ Claims.properSpans merging near
        ∧ Claims.lengthFrom near (Claims.angleNow merging) = 31)
      ∧ ((∀ y ∈ inserting.defect.map, y.track ≠ far.track.toNat) ∧ inserting.defect.map.length < 32
        ∧ Claims.properSpans inserting far ∧ Claims.learned inserting.defect far)
      ∧ (32 ≤ full.defect.map.length ∧ full.defect.map = fullMap.take 23 ++ weak :: fullMap.drop 24
        ∧ weak ∉ fullMap.drop 24 ∧ Claims.evicts full.defect.views.rev (fullMap.take 23) (fullMap.drop 24) weak
        ∧ (∀ y ∈ full.defect.map, y.track ≠ far.track.toNat) ∧ Claims.properSpans full far) := by
  unfold Claims.learned Claims.properSpans Claims.evicts
  decide

theorem test_witness_PredictiveWindowOpensStaysAndFades :
    let s := passing 1984 none 1
    let t := passing 1983 none 1
    let e : Entry := { track := 1100, start := 2000, len := 20, hits := 1, stamp := 300 }
    let v : Window := { track := 1100, start := 2000, seen := false }
    s.held = false ∧ Claims.uneventful s.defect set0 ∧ Claims.predicting s.defect ∧ s.defect.window = none
      ∧ s.defect.map = [] ++ e :: [] ∧ Claims.guardsNow s e ∧ ¬ Claims.guardsNow t e ∧ Claims.windowAt v e
      ∧ e.track = s.defect.views.counter ∧ (passing 2036 (some v) 1).defect.window = some v
      ∧ ({ v with seen := true } : Window).seen = true := by
  unfold Claims.uneventful Claims.predicting Claims.guardsNow Claims.guards Claims.windowAt Claims.depthOf Claims.angleNow
  decide

/-- The states of WindowAtEverySet and WindowAfterLearning: a window open with prediction enabled and disabled, none open, one whose
entry is gone, a defect that opens, and one that closes and is learned. -/
theorem test_witness_WindowAtEverySet :
    let v : Window := { track := 1100, start := 2000, seen := false }
    let inside := passing 1984 (some v) 1
    let behind := passing 2036 (some v) 1
    let disabled : State := { inside with defect := { inside.defect with params := { defaultDefectParams with prehold := 0 } } }
    let gone : State := { inside with defect := { inside.defect with map := [] } }
    let opening : State := { behind with defect := { behind.defect with det := .clear, baseline := 32000, openRun := 2 } }
    let learning := closing [] 1400 5200 20 143 412
    let dark : SampleSet := { set0 with rs := 1500 }
    inside.held = false ∧ ¬ Claims.closesAt inside.defect set0 ∧ (∀ e ∈ inside.defect.map, Claims.windowAt v e)
      ∧ Claims.predicting inside.defect ∧ (∀ e ∈ inside.defect.map, Claims.guardsNow inside e)
      ∧ (∀ e ∈ behind.defect.map, ¬ Claims.guardsNow behind e) ∧ (passing 1984 none 1).defect.window = none
      ∧ disabled.held = false ∧ ¬ Claims.predicting disabled.defect ∧ ¬ Claims.closesAt disabled.defect set0
      ∧ (∀ y ∈ gone.defect.map, ¬ Claims.windowAt v y)
      ∧ Claims.opensAt opening.defect dark ∧ ¬ Claims.closesAt opening.defect dark
      ∧ Claims.closesAt learning.defect { set0 with rs := 1950 } ∧ learning.defect.openRec.isSome = true
      ∧ (∀ r ∈ learning.defect.openRec, Claims.learned learning.defect r) ∧ learning.defect.window = none := by
  unfold Claims.closesAt Claims.opensAt Claims.learned Claims.predicting Claims.guardsNow Claims.guards Claims.windowAt
    Claims.depthOf Claims.angleNow
  decide

/-- R89, R90: a window closes without fading where prediction is disabled, or where the defect opens at the very set. -/
theorem test_window_closes_without_fading :
    let v : Window := { track := 1100, start := 2000, seen := false }
    let behind := passing 2036 (some v) 1
    let disabled : State := { behind with defect := { behind.defect with params := { defaultDefectParams with prehold := 0 } } }
    let opening : State := { behind with defect := { behind.defect with det := .clear, baseline := 32000, openRun := 2 } }
    let t := after (.defectSet set0) disabled
    let u := after (.defectSet { set0 with rs := 1500 }) opening
    t.defect.window = none ∧ t.defect.map = behind.defect.map ∧ .holdSourceRequest .both .predict false ∈ t.transit
      ∧ u.defect.det = .opened ∧ u.defect.window = none ∧ u.defect.map = behind.defect.map := by decide

theorem test_witness_DefectMonitorTakesReports :
    live.defect.det = .inactive ∧ clear2000.det ≠ .inactive ∧ (closing [] 1 1 1 1 1).defect.det = .opened
      ∧ Claims.onDisc (65530 + 5) ∧ ¬ Claims.onDisc (65530 + 6) ∧ Claims.onDisc 0 ∧ ¬ Claims.onDisc (-1) := by
  unfold Claims.onDisc
  decide

theorem test_witness_ShockBeginsAndEnds :
    let p := Shock.reset.params
    live.shock.shock = false ∧ (599 : Int).natAbs < p.start ∧ p.start ≤ (-600 : Int).natAbs ∧ live.shock.startRun = 0
      ∧ 1 ≤ ({ Shock.reset with startRun := 1 } : Shock).startRun ∧ p.stop ≤ (300 : Int).natAbs
      ∧ (299 : Int).natAbs < p.stop ∧ min 65535 (2498 + 1) < p.quiet ∧ p.quiet ≤ min 65535 (2499 + 1)
      ∧ (inShock { Shock.reset with shock := true }).shock.shock = true := by decide

theorem test_witness_HallStatesCountSectorsAndMarkTurns :
    Claims.forward 1 3 ∧ Claims.forward 5 1 ∧ Claims.forward 4 5 ∧ Claims.hallFault 1 6 ∧ Claims.hallFault 1 0
      ∧ ¬ Claims.validHall 0 ∧ ¬ Claims.validHall 7 ∧ Claims.validHall 6 := by
  unfold Claims.hallFault Claims.forward Claims.validHall
  simp

/-- The update phase, the stall timer and the stop timer at an edge (R112, R117, R121). -/
theorem test_edge_restarts_timers :
    let b := { clv 1250 .slewing 319 0 [] with phase := 4, stallTimer := some 700 }
    let t := after (.hallStateTaken 3 9000) (inSpin b)
    let c := after (.hallStateTaken 3 9000) (inSpin { b with state := .coasting, stallTimer := none, stopTimer := some 700 })
    let r := after (.hallStateTaken 5 9000) (inSpin b)
    t.spin.phase = 5 ∧ t.spin.stallTimer = some 0 ∧ t.spin.stopTimer = none ∧ t.spin.state = .slewing
      ∧ c.spin.state = .coasting ∧ c.spin.stopTimer = some 0 ∧ c.spin.stallTimer = none
      ∧ r.spin.state = .starting ∧ r.spin.stallTimer = some 0 ∧ r.spin.integ = 0 := by decide

theorem test_witness_SpindlePatternFollowsState :
    let s := inSpin (clv 1250 .regulating 319 0 [])
    Claims.forward s.spin.hall 3 ∧ Claims.forward 5 s.spin.hall ∧ Claims.spindleRow (.supplyStateReport .low) = true
      ∧ Claims.drivenAnew s (after (.supplyStateReport .low) s)
      ∧ exec (.supplyStateReport .low) s = .next (after (.supplyStateReport .low) s) := by
  unfold Claims.forward Claims.drivenAnew
  exact ⟨by decide, by decide, rfl, by decide, rfl⟩

theorem test_witness_SpeedUpdateRunsLoopAndWindow :
    let b := clv 1250 .slewing 314 3 [5050, 5050, 5050, 5050, 5050]
    let r := { clv 1250 .regulating 319 0 [5000, 5000, 5000, 5000, 5000] with outRun := 3 }
    Claims.forward b.hall 3 ∧ b.refTime = some 0 ∧ Claims.intervalOf 5050 0 = 5050 ∧ b.phase = 5 ∧ b.awaiting = 0
      ∧ b.state = .slewing ∧ (Claims.speedError b 5050).natAbs ≤ Claims.windowOf b ∧ b.inRun = 3
      ∧ ¬ ((Claims.speedError b 9000).natAbs ≤ Claims.windowOf b)
      ∧ r.state = .regulating ∧ 2 * Claims.windowOf r < (Claims.speedError r 9000).natAbs ∧ r.outRun = 3
      ∧ ¬ (2 * Claims.windowOf r < (Claims.speedError r 5000).natAbs) := by
  unfold Claims.forward
  decide

theorem test_witness_SpindleTimersExpire :
    let b := clv 1250 .regulating 319 0 []
    let strong : SampleSet := { set0 with sc := 3001 }
    let hot := { b with pattern := .forward 1, magnitude := 1 }
    let counting := { b with stallTimer := some 24998, work := none }
    let stalling := { b with stallTimer := some 24999, duty := 1 }
    let stop : SpinWork := { tag := 4, code := 0x32, isStop := true, clamped := false, timer := 0 }
    let coasting := { b with state := .coasting, stopTimer := some 9999, work := some stop }
    let braking := { b with state := .braking, brakeTimer := some 2499, brakeDrive := true, magnitude := 0,
                            stopTimer := some 7, params := { b.params with brakeMode := 1 } }
    let late : SpinWork := { tag := 4, code := 0x31, isStop := false, clamped := false, timer := 149999 }
    (Claims.running hot.state ∧ Claims.motoring hot ∧ ¬ Claims.currentFine hot strong ∧ hot.stopTimer = none)
      ∧ (Claims.running counting.state ∧ Claims.currentFine counting { set0 with sc := 3000 }
        ∧ counting.stallTimer = some 24998 ∧ 24998 + 1 < 25000 ∧ counting.stopTimer = none ∧ counting.brakeTimer = none
        ∧ counting.brakeDrive = false ∧ counting.work = none)
      ∧ (Claims.running stalling.state ∧ Claims.currentFine stalling set0 ∧ stalling.stallTimer = some 24999
        ∧ 25000 ≤ 24999 + 1 ∧ stalling.stopTimer = none ∧ 0 < stalling.duty)
      ∧ (stalling.state ≠ .starting ∧ ({ stalling with duty := 0 } : Spin).duty ≤ 0)
      ∧ (coasting.state = .coasting ∧ coasting.stopTimer = some 9999 ∧ 10000 ≤ 9999 + 1 ∧ coasting.work = some stop)
      ∧ (braking.state = .braking ∧ braking.brakeTimer = some 2499 ∧ 2500 ≤ 2499 + 1 ∧ braking.stopTimer = some 7 ∧ 7 + 1 < 10000
        ∧ braking.brakeDrive = true ∧ braking.params.brakeMode = 1)
      ∧ (({ b with work := some late } : Spin).work = some late ∧ late.isStop = false ∧ 150000 ≤ late.timer + 1
        ∧ Claims.currentFine { b with work := some late } set0 ∧ Claims.noStall { b with work := some late }
        ∧ Claims.noHallTogether (inSpin b)) := by
  unfold Claims.running Claims.currentFine Claims.motoring
  refine ⟨⟨Or.inr (Or.inr rfl), ⟨⟨1, rfl⟩, by decide⟩, by decide, rfl⟩, ?_, ?_, ?_, ?_, ?_,
    ⟨rfl, rfl, by decide, by decide, (fun _ h => nomatch h), (fun _ _ _ _ h => nomatch h)⟩⟩ <;> decide

/-- A set at which no timer of the Spindle Controller expires (R117, R121, R122, R126). -/
theorem test_witness_SpindleTimersAreCounted :
    let b := clv 1250 .regulating 319 0 []
    let work : SpinWork := { tag := 4, code := 0x31, isStop := false, clamped := false, timer := 149998 }
    let s := { b with stallTimer := some 24998, work := some work }
    let c := { b with state := .coasting, stopTimer := some 9998, work := some work }
    let k := { b with state := .braking, brakeTimer := some 2498, brakeDrive := true, magnitude := 9, work := none }
    (Claims.running s.state ∧ Claims.currentFine s set0 ∧ 24998 + 1 < 25000 ∧ work.timer + 1 < 150000)
      ∧ (c.state = .coasting ∧ 9998 + 1 < 10000) ∧ (k.state = .braking ∧ 2498 + 1 < 2500)
      ∧ (after (.spindleSet set0) (inSpin s)).spin.stallTimer = some 24999
      ∧ (after (.spindleSet set0) (inSpin s)).spin.work = some { work with timer := 149999 }
      ∧ (after (.spindleSet set0) (inSpin c)).spin.stopTimer = some 9999
      ∧ (after (.spindleSet set0) (inSpin k)).spin.brakeTimer = some 2499
      ∧ (after (.spindleSet set0) (inSpin k)).spin.brakeDrive = true := by
  unfold Claims.currentFine
  decide

/-- SLEWING one update before REGULATING, a SPIN CLV one set before its timer expires, the update waiting in the queue. -/
def deciding (instant : Nat) (i : Instr) : State :=
  { inSpin { clv 1250 .slewing 314 3 [5050, 5050, 5050, 5050, 5050] with
      work := some { tag := 0x52, code := 0x31, isStop := false, clamped := false, timer := 149999 } } with
    pending := [i], instant := instant }

theorem test_witness_RegulationComesBeforeTimeout :
    let s := deciding 5060 (.hallStateTaken 3 5050)
    let w : SpinWork := { tag := 0x52, code := 0x31, isStop := false, clamped := false, timer := 149999 }
    s.held = false ∧ Claims.forward s.spin.hall 3 ∧ s.spin.refTime = some 0 ∧ Claims.intervalOf 5050 0 = 5050
      ∧ s.spin.phase = 5 ∧ s.spin.awaiting = 0 ∧ s.spin.state = .slewing
      ∧ (Claims.speedError s.spin 5050).natAbs ≤ Claims.windowOf s.spin ∧ s.spin.inRun = 3 ∧ s.spin.work = some w
      ∧ w.isStop = false ∧ 150000 ≤ w.timer + 1 ∧ Claims.currentFine s.spin set0 ∧ s.spin.stallTimer = none
      ∧ s.spin.stopTimer = none ∧ .hallStateTaken 3 5050 ∈ Claims.hallRows 3 5050 ∧ s.pending = [.hallStateTaken 3 5050]
      ∧ 5050 ≤ s.instant := by
  unfold Claims.forward Claims.currentFine
  decide

/-- R107, R126: the update that enters REGULATING completes the command where it comes together with the expiring set, either one
first; where its edge comes later than the sample instant, the timer has ended first. -/
theorem test_timeout_and_regulation_together :
    let ok : Instr := .completion { tag := 0x52, code := 0x31, result := .ok, value := 15150 }
    let setFirst := stepped (after (.spindleSet set0) (deciding 5060 (.hallStateTaken 3 5050)))
    let edgeFirst := after (.spindleSet set0) (stepped (deciding 5060 (.hallStateTaken 3 5050)))
    let later := after (.spinCommandTimeout set0) (deciding 5040 (.hallStateTaken 3 5050))
    setFirst.spin.state = .regulating ∧ ok ∈ setFirst.transit ∧ setFirst.spin.work = none
      ∧ edgeFirst.spin.state = .regulating ∧ ok ∈ edgeFirst.transit ∧ edgeFirst.spin.work = none
      ∧ later.spin.state = .slewing ∧ later.spin.work = none ∧ later.subs = [.spinCommandTimeout] := by decide

theorem test_witness_SpindleTakesReports :
    let b := { clv 1250 .coasting 0 0 [] with views := { (clv 0 .coasting 0 0 []).views with enable := false } }
    b.state = .coasting ∧ b.target.isSome = true ∧ b.views.loading = .loaded ∧ b.views.enable = false
      ∧ live.spin.target = none ∧ ({ live.spin with stopKind := some .brake } : Spin).stopKind = some .brake
      ∧ (clv 1 .regulating 0 0 []).state ≠ .coasting ∧ Claims.validHall b.hall ∧ ¬ Claims.validHall live.spin.hall
      ∧ ¬ Claims.running b.state := by
  unfold Claims.validHall Claims.running
  decide

theorem test_witness_SpindleCommandsTargetAndStop :
    let b := clv 1250 .coasting 0 0 []
    let c (w1 w2 : Word) (o : Byte) : Posted := { cmd 0x30 1 with w1 := w1, w2 := w2, option := o }
    live.spin.views.loading ≠ .loaded
      ∧ (let s := { b with hall := 7 }; s.views.loading = .loaded ∧ ¬ Claims.validHall s.hall)
      ∧ (b.views.loading = .loaded ∧ Claims.validHall b.hall
        ∧ Claims.periodIn b.params (65536 * (c 0 24999 0).w1.toNat + (c 0 24999 0).w2.toNat) = 25000
        ∧ Claims.periodIn b.params (65536 * (c 3 53393 0).w1.toNat + (c 3 53393 0).w2.toNat) = 250000
        ∧ Claims.periodIn b.params (65536 * (c 0 30000 0).w1.toNat + (c 0 30000 0).w2.toNat) = 30000)
      ∧ (b.state = .coasting ∧ b.views.supply = some .ok) ∧ live.spin.views.supply ≠ some .ok
      ∧ (clv 1 .regulating 0 0 []).state = .regulating ∧ 1 < (c 0 0 2).option.toNat
      ∧ ((c 0 0 1).option = 1 ∧ b.state ≠ .stopped ∧ b.state ≠ .fault ∧ b.state ≠ .braking ∧ b.views.enable = true)
      ∧ ((c 0 0 0).option.toNat ≤ 1 ∧ (c 0 0 0).option = 0 ∧ b.state ≠ .stopped)
      ∧ (let s := { b with target := none }; s.views.loading = .loaded ∧ Claims.validHall s.hall ∧ s.target = none)
      ∧ (b.views.loading = .loaded ∧ Claims.validHall b.hall ∧ b.target.isSome = true ∧ b.state ≠ .regulating) := by
  unfold Claims.validHall
  decide

/-- A coasting spindle that waits to brake, and one that has not been enabled. -/
theorem test_witness_BrakingStops :
    let b := { clv 1250 .coasting 0 0 [] with target := none, stopKind := some .brake }
    let r := { clv 1250 .regulating 0 0 [] with params := { defaultSpindleParams with brakeMode := 1 } }
    (b.state = .coasting ∧ b.target = none ∧ b.stopKind = some .brake)
      ∧ (r.state ≠ .stopped ∧ r.state ≠ .fault ∧ r.state ≠ .braking ∧ r.views.enable = true ∧ r.params.brakeMode = 1)
      ∧ (let t := after .loadingStopRequest (inSpin r)
         t.spin.brakeDrive = true ∧ t.spin.pattern = .reverse 1 ∧ t.spin.magnitude = 1000) := by
  decide

theorem test_witness_RecoverySetDecidesPendingSet :
    let b : Rec := { Rec.reset with conditions := 0x84, views := { Rec.reset.views with loading := .loaded } }
    live.recov.state ≠ .active ∧ live.recov.conditions = 0 ∧ b.state = .idle ∧ b.conditions ≠ 0
      ∧ live.recov.views.loading ≠ .loaded ∧ b.conditions &&& BitVec.ofNat 8 b.params.mask ≠ 0
      ∧ b.conditions &&& BitVec.ofNat 8 0x7B = 0 ∧ b.views.loading = .loaded
      ∧ Claims.noLater (Claims.earliest b.conditions) .refocus = true
      ∧ Claims.noLater (Claims.earliest b.conditions) .respin = false
      ∧ (inRecov { b with state := .active, step := some .refocus }).recov.step = some .refocus := by decide

/-- A plan in a step and phase, its timer at n. -/
def planning (x : Step) (ph : Option StepPhase) (n : Nat) : Rec :=
  { Rec.reset with state := .active, step := some x, phase := ph, timer := some n }

theorem test_witness_RecoverySetCarriesStepOn :
    let quiet := planning .waitQuiet none 0
    let steps : List (Step × Option StepPhase) :=
      [(.respin, none), (.refocus, some .search), (.retrack, none), (.return_, some .seek)]
    let resp := planning .respin none 149998
    let shaken := { planning .refocus (some .quietWait) 14998 with views := { Rec.reset.views with shock := true } }
    let asking := planning .return_ (some .refWait) 4998
    let sure := { planning .confirm none 998 with views := { Rec.reset.views with position := .onTrack } }
    (quiet.state = .active ∧ quiet.conditions = 0 ∧ quiet.step = some .waitQuiet ∧ quiet.views.supply ≠ some .ok)
      ∧ ({ quiet with views := { quiet.views with supply := some .ok } } : Rec).views.supply = some .ok
      ∧ (∀ p ∈ steps, ∀ o ∈ [some StepOutcome.done, some .failed, none],
          let b : Rec := { planning p.1 p.2 0 with outcome := o }
          b.state = .active ∧ b.conditions = 0 ∧ b.step = some p.1 ∧ b.phase = p.2 ∧ b.outcome = o)
      ∧ (resp.timer = some 149998 ∧ resp.step = some .respin ∧ resp.outcome = none
        ∧ 149998 + 1 < 50 * resp.params.respinTimeout)
      ∧ (shaken.timer = some 14998 ∧ shaken.step = some .refocus ∧ shaken.phase = some .quietWait
        ∧ shaken.views.shock = true ∧ 14998 + 1 < 50 * shaken.params.quietWait)
      ∧ (asking.timer = some 4998 ∧ asking.step = some .return_ ∧ asking.phase = some .refWait ∧ asking.refTaken = false
        ∧ 4998 + 1 < 50 * asking.params.refTimeout)
      ∧ (sure.timer = some 998 ∧ sure.step = some .confirm ∧ sure.views.position = .onTrack
        ∧ 998 + 1 < 50 * sure.params.confirm)
      ∧ (let b := planning .refocus (some .quietWait) 0; b.phase = some .quietWait ∧ b.views.shock = false)
      ∧ (let b := { asking with refTaken := true }; b.phase = some .refWait ∧ b.refTaken = true)
      ∧ (let b := planning .confirm none 0; b.step = some .confirm ∧ b.views.position ≠ .onTrack) := by
  decide

theorem test_witness_RecoveryStepTimersExpire :
    let resp := planning .respin none 149999
    let shaken := { planning .refocus (some .quietWait) 14999 with views := { Rec.reset.views with shock := true } }
    let asking := planning .return_ (some .refWait) 4999
    let sure := { planning .confirm none 999 with views := { Rec.reset.views with position := .onTrack } }
    (resp.state = .active ∧ resp.conditions = 0 ∧ resp.timer = some 149999 ∧ resp.step = some .respin ∧ resp.outcome = none
        ∧ 50 * resp.params.respinTimeout ≤ 149999 + 1)
      ∧ (shaken.state = .active ∧ shaken.conditions = 0 ∧ shaken.timer = some 14999 ∧ shaken.step = some .refocus
        ∧ shaken.phase = some .quietWait ∧ shaken.views.shock = true ∧ 50 * shaken.params.quietWait ≤ 14999 + 1)
      ∧ (asking.state = .active ∧ asking.conditions = 0 ∧ asking.timer = some 4999 ∧ asking.step = some .return_
        ∧ asking.phase = some .refWait ∧ asking.refTaken = false ∧ 50 * asking.params.refTimeout ≤ 4999 + 1)
      ∧ (sure.state = .active ∧ sure.conditions = 0 ∧ sure.timer = some 999 ∧ sure.step = some .confirm
        ∧ sure.views.position = .onTrack ∧ 50 * sure.params.confirm ≤ 999 + 1) := by
  decide

theorem test_witness_RecoveryReportsAndLastGoodPlace :
    let b : Rec := { Rec.reset with state := .active, step := some .respin, reqStep := some .respin, phase := some .refWait }
    let clean : Rec := { Rec.reset with holdSeen := false, views := { Rec.reset.views with position := .onTrack, valid := true } }
    b.state = .active ∧ b.step.isSome = true ∧ b.step = b.reqStep ∧ (1 : BitVec 8) ≠ b.reqNum
      ∧ ({ b with state := .failed } : Rec).state = .failed ∧ b.state ≠ .failed ∧ b.phase = some .refWait
      ∧ live.recov.state ≠ .active ∧ Claims.clean clean ∧ ¬ Claims.clean live.recov ∧ live.recov.lgp.valid = false
      ∧ ((0 : Int) ≤ (0 : Nat) + (65535 : Int) ∧ (0 : Nat) + (65535 : Int) ≤ 65535)
      ∧ ¬((0 : Int) ≤ (0 : Nat) + (-1 : Int) ∧ (0 : Nat) + (-1 : Int) ≤ 65535) := by
  unfold Claims.clean
  decide

/-- A loading state with its motion timer at n sets and the given switch levels. -/
def loadAt (st : LoadingState) (n : Nat) (pins : Pins) : State :=
  { inLoad { Load.reset with state := st, motionTimer := some n, withdrawTimer := some 9999, enable := true } with pins := pins }

theorem test_witness_LoadingSetDebouncesAndTakesExits :
    let s := loadAt .inserting 149999 releasedPins
    live.load.work = none ∧ (loadAt .restoring 0 releasedPins).load.work = none ∧
    let seeded : Load := { Load.reset with seeded := true, counts := { entry := 999, centre := 0, clamp := 0, home := 0 } }
    Claims.switchesOf { inLoad seeded with pins := { releasedPins with entry := true } } ≠ seeded.switches
      ∧ seeded.seeded = true ∧ (Claims.switchesOf s).centre = false ∧ Claims.withdrawn s
      ∧ Claims.motionReaches s s.load.params.insertTimeout ∧ ¬ Claims.motionReaches (loadAt .inserting 149998 releasedPins) 3000
      ∧ Claims.motionReaches (loadAt .clamping 99999 releasedPins) 2000
      ∧ Claims.motionReaches (loadAt .unloadWait 249999 releasedPins) 5000
      ∧ ¬ Claims.withdrawn (loadAt .inserting 0 { releasedPins with entry := true })
      ∧ (Claims.switchesOf (loadAt .ejecting 0 { releasedPins with home := true, entry := true })).home = true
      ∧ 50 * s.load.params.presentTimeout ≤ 499999 + 1 := by
  refine ⟨rfl, rfl, by decide, rfl, by decide +kernel, ⟨by decide +kernel, by decide +kernel, 9999, rfl, by decide⟩,
    ⟨rfl, 149999, rfl, by decide⟩, ?_, ⟨rfl, 99999, rfl, by decide⟩, ⟨rfl, 249999, rfl, by decide⟩, ?_, by decide,
    by decide⟩
  · rintro ⟨_, n, h, h'⟩
    cases h
    omega
  · rintro ⟨h, _⟩
    exact absurd h (by decide)

theorem test_witness_LoadAndEjectAnswerByState :
    let w : Load := { Load.reset with state := .inserting, work := some { isLoad := true, tag := 1 } }
    live.load.state = .startEval ∧ w.state = .inserting ∧ Claims.inFlight (inLoad w) true ∧ ¬ Claims.inFlight live true
      ∧ ¬ Claims.inFlight (inLoad w) false ∧ (w.state, (3 : Word)) = (.inserting, 3) := by
  refine ⟨rfl, rfl, ⟨_, rfl, rfl⟩, ?_, ?_, rfl⟩
  · rintro ⟨k, h, _⟩
    cases h
  · rintro ⟨k, h, h'⟩
    cases h
    cases h'

theorem test_witness_ChannelsApplyAndBridgesDrive :
    let b : Drive := { railed 1200 with spindle := { SpinDrive.reset with pattern := .forward 1, magnitude := 1023 } }
    b.spindleEnable = true ∧ (1023 : Int) = max 0 (min 1023 (Claims.scaled (inDrive b) b.spindle.magnitude))
      ∧ (0 : Int) = max 0 (min 1023 (Claims.scaled live live.drive.spindle.magnitude)) ∧ live.drive.spindleEnable = false
      ∧ Claims.conducting 1 .u .v ∧ Claims.conducting 5 .w .v ∧ b.supply = some .ok ∧ live.drive.supply ≠ some .ok
      ∧ b.focus.applied = none
      ∧ (after (.carrierUnderflow .focus) (inDrive b)).drive.focus.levels 1524 = (false, false)
      ∧ (after (.carrierUnderflow .focus) (inDrive b)).drive.focus.levels 1523 = (true, false)
      ∧ (after (.carrierUnderflow .track) (inDrive b)).drive.track.levels 724 = (false, true) := by
  unfold Claims.conducting
  decide

theorem test_witness_SpindleSignals :
    let c : SpinDrive := { SpinDrive.reset with invert := true, u := { PhaseSignals.reset with high := some (1014, 1034) } }
    let s := inDrive { Drive.reset with spindle := c }
    Claims.withinWindow (Claims.phaseOf s.drive.spindle .u).high 1014
      ∧ (Claims.spindlePins s .u 1014).1 = false ∧ (Claims.spindlePins s .u 1034).1 = true
      ∧ (Claims.spindlePins s .v 1014).2 = true ∧ State.reset.held = true := by
  refine ⟨⟨1014, 1034, rfl, by decide, by decide⟩, ?_, ?_, ?_, rfl⟩ <;> decide

/-- R172: a signal that was active around the peak is long inactive at the next period, whether its window ended by itself or with
the enable; one that is cut off late in its window is not. -/
theorem test_dead_time_after_a_clear :
    let p : PhaseSignals := { PhaseSignals.reset with high := some (1014, 1034), highOff := 1014 }
    let wide : PhaseSignals := { PhaseSignals.reset with high := some (1, 2047), highOff := 1 }
    ([0, 1014, 1020, 1034, 2047].map (fun n => ((p.idle n).next 10 (none, centred 1023)).low)
        = [some (1, 2047), some (1, 2047), some (1, 2047), some (1, 2047), some (1, 2047)])
      ∧ ((wide.idle 2044).next 10 (none, centred 1023)).low = some (6, 2047)
      ∧ (p.next 10 (none, centred 1023)).high = none ∧ (p.next 10 (none, centred 1023)).highOff = 3062 := by decide

theorem test_witness_ClearOfSpindleEnable :
    let s := inDrive { railed 1200 with spindleEnable := true }
    let t := after (.spindleEnableRequest false) s
    s.drive.spindleEnable = true ∧ t.drive.spindleEnable = false ∧ t.freeCount = s.freeCount + 1
      ∧ (after (.spindleEnableRequest false) t).freeCount = t.freeCount := by decide

/-- R178: a new V.LOW takes part in Vm from the next refresh. -/
theorem test_low_comes_into_force_with_refresh :
    let s := inDrive { Drive.reset with params := { defaultSupplyParams with low := 900 } }
    let t := after (.supplySet { set0 with refresh := some { sp := 650, tm := 0 } }) s
    s.drive.vm = 700 ∧ t.drive.vm = 900 := by decide

/-- A set with a refresh of the rail at sp. -/
def railAt (sp : Int) : SampleSet := { set0 with refresh := some { sp := sp, tm := 0 } }

/-- The supply monitor in a state, with its timers. -/
def supplied (st : Option SupplyState) (ride restore : Option Nat) : Drive :=
  { Drive.reset with supply := st, ride := ride, restore := restore }

theorem reaches_none (ms : Nat) : Claims.reaches none ms ↔ False := ⟨fun ⟨_, h, _⟩ => (nomatch h), False.elim⟩

theorem reaches_some (n ms : Nat) : Claims.reaches (some n) ms ↔ 50 * ms ≤ n + 1 :=
  ⟨fun ⟨_, h, k⟩ => (Option.some.inj h) ▸ k, fun h => ⟨n, rfl, h⟩⟩

theorem test_witness_SupplyMonitorFollowsRail :
    let p := Drive.reset.params
    let free := supplied (some .ok) none none
    let back := supplied (some .low) none (some 999)
    let riding := supplied (some .dip) (some 2499) (some 3)
    let noRide : Drive := { free with params := { p with ride := 0 } }
    let atOnce : Drive := { supplied (some .low) none none with params := { p with restoreTime := 0 } }
    (set0.refresh = none ∧ ¬ Claims.reaches free.ride p.ride ∧ ¬ Claims.reaches free.restore p.restoreTime)
      ∧ (set0.refresh = none ∧ Claims.reaches back.restore back.params.restoreTime)
      ∧ (set0.refresh = none ∧ Claims.reaches riding.ride riding.params.ride
        ∧ ¬ Claims.reaches riding.restore riding.params.restoreTime)
      ∧ (live.drive.ride = none ∧ live.drive.restore = none ∧ live.drive.supply = none ∧ (p.restore : Int) ≤ 950)
      ∧ (live.drive.supply = none ∧ (949 : Int) < p.restore)
      ∧ (free.ride = none ∧ free.restore = none ∧ free.supply = some .ok ∧ (p.dip : Int) ≤ 900 ∧ (p.low : Int) ≤ 900)
      ∧ (free.supply = some .ok ∧ (p.low : Int) ≤ 899 ∧ (899 : Int) < p.dip ∧ 0 < p.ride)
      ∧ (noRide.supply = some .ok ∧ noRide.params.ride = 0 ∧ (700 : Int) < noRide.params.dip)
      ∧ (free.supply = some .ok ∧ (699 : Int) < p.low)
      ∧ (riding.supply = some .dip ∧ (699 : Int) < riding.params.low)
      ∧ (let b := supplied (some .dip) (some 2498) none
         b.supply = some .dip ∧ (b.params.low : Int) ≤ 700 ∧ (700 : Int) < b.params.restore
          ∧ ¬ Claims.reaches b.ride b.params.ride)
      ∧ (let b := supplied (some .low) none (some 5)
         b.supply = some .low ∧ (949 : Int) < b.params.restore ∧ ¬ Claims.reaches b.ride b.params.ride)
      ∧ (let b := supplied (some .low) none (some 998)
         (b.params.restore : Int) ≤ 950 ∧ ¬ Claims.returnsAt (inDrive b) ∧ ¬ Claims.reaches b.ride b.params.ride)
      ∧ Claims.returnsAt (inDrive back) ∧ Claims.returnsAt (inDrive atOnce)
      ∧ (riding.supply = some .dip ∧ (riding.params.low : Int) ≤ 949 ∧ Claims.reaches riding.ride riding.params.ride
        ∧ (949 : Int) < riding.params.restore)
      ∧ ((riding.params.restore : Int) ≤ 950 ∧ ¬ Claims.returnsAt (inDrive riding)) := by
  unfold Claims.returnsAt
  simp only [supplied, reaches_none, reaches_some]
  decide

theorem test_witness_WriteCyclesCaptureAndPost :
    live.held = false ∧ live.bus.image.wf = true ∧ State.reset.held = true ∧ 0xDFFF < Claims.servoArea live
      ∧ Claims.servoArea live + 0x2000 ≤ 0x10000 ∧ live.cq.queue.length < 8
      ∧ 8 ≤ (inQueue (List.replicate 8 (cmd 1 1))).cq.queue.length
      ∧ (Claims.postedBy (after (.windowWrite 0xE0F0 0x0028 Claims.both) live) 15 0).code = 0x28
      ∧ (Claims.postedBy (after (.windowWrite 0xE0F0 0x0026 Claims.both) live) 15 0).code = 0x26
      ∧ (Claims.postedBy (after (.windowWrite 0xE0F0 0x0070 Claims.both) live) 15 0).code = 0x70
      ∧ (Claims.postedBy live 15 0).code ≠ 0x70 ∧ live.cq.queue.head? ≠ some (Claims.postedBy live 15 0) := by decide

theorem test_witness_QueueRecordsAnswersAndOffers :
    let s := inQueue [cmd 1 1, cmd 1 2]
    let a : CmdQueue := { s.cq with applying := some { awaited := [.position, .recovery], sum := 0 } }
    s.cq.queue = [cmd 1 1, cmd 1 2] ∧ s.cq.deferred = false ∧ ({ s.cq with deferred := true } : CmdQueue).deferred = true
      ∧ s.cq.applying = none ∧ a.applying.isSome = true ∧ GroupPart.position ∈ [GroupPart.position, .recovery]
      ∧ [GroupPart.position, .recovery].erase .position ≠ []
      ∧ [GroupPart.position, .recovery].erase .position = [.recovery] ∧ GroupPart.position ∉ s.cq.stale
      ∧ GroupPart.shock ∈ ({ s.cq with stale := [.shock] } : CmdQueue).stale := by decide

theorem test_witness_ApplyParametersAndResetServo :
    let c (w : Word) : Posted := { cmd 0x02 7 with w1 := w }
    (inQueue [c 1024]).cq.queue = [c 1024] ∧ live.cq.applying = none ∧ 1024 ≤ (c 1024).w1.toNat ∧ (c 0).w1 = 0
      ∧ (c 1023).w1.toNat < 1024 ∧ (c 1023).w1 ≠ 0 := by decide

theorem test_witness_ReadsAnswerAndFreezeSnapshots :
    Claims.isGroup 0x0810 4 ∧ Claims.isGroup 0x0888 4 ∧ Claims.isGroup 0x0B36 5 ∧ Claims.isGroup 0x0B78 3
      ∧ ((0xF001 / 2 * 2 : Nat) = Claims.servoArea live + 0x1000 + 16 * 0 + 2 * 0)
      ∧ ((0xFFFE / 2 * 2 : Nat) = Claims.servoArea live + 0x1000 + 16 * 255 + 2 * 7)
      ∧ 0xE7FE < Claims.servoArea live + 0x0800
      ∧ (after (.snapshotRead 0xEB78 Claims.both) live).bus.snapshot.map Snapshot.base = some 0x0B78
      ∧ live.bus.snapshot = none := by
  refine ⟨Or.inl ⟨0, by decide, rfl, rfl⟩, Or.inl ⟨15, by decide, rfl, rfl⟩,
    Or.inr (Or.inr (Or.inr (Or.inr (Or.inl ⟨31, by decide, rfl, rfl⟩)))),
    Or.inr (Or.inr (Or.inr (Or.inr (Or.inr ⟨rfl, rfl⟩)))), by decide, by decide +kernel, by decide +kernel,
    by decide, rfl⟩

theorem test_witness_StatusMirrorShowsTheBlocks :
    let v : Window := { track := 1100, start := 2000, seen := false }
    let s := passing 1984 (some v) 1
    let e : Entry := { track := 1100, start := 2000, len := 20, hits := 1, stamp := 300 }
    live.held = false ∧ live.bus.snapshot = none ∧ live.pos.motion = none ∧ live.defect.window = none
      ∧ (seekIn .run).isSeek = true ∧ jump2.isSeek = false ∧ live.cq.ring[15]? = some CompletionRec.blank
      ∧ live.defect.map.length ≤ 0
      ∧ (s.held = false ∧ s.bus.snapshot = none ∧ s.defect.window = some v ∧ s.defect.map = [] ++ e :: []
        ∧ Claims.windowAt v e ∧ s.defect.map[0]? = some e)
      ∧ (after (.snapshotRead 0xE98A Claims.both) s).bus.answer = some (0, Claims.both)
      ∧ (after (.snapshotRead 0xEB84 Claims.both) (loadAt .inserting 149 releasedPins)).bus.answer = some (2, Claims.both)
      ∧ (after (.snapshotRead 0xEFFE Claims.both) live).bus.answer = some (0, Claims.both) := by
  unfold Claims.windowAt
  decide

/-- The capture unit in a state with v valid records, a pre count and a post count. -/
def capturing (st : CaptureState) (v pre : Nat) (post : Option Nat) : Capture :=
  { Capture.reset with state := st, valid := v, post := post, params := { defaultCaptureParams with pre := pre } }

theorem test_witness_CaptureCommandsArmTriggerStop :
    let b := capturing .armed 0 64 none
    live.cap.state = .idle ∧ Claims.recording (inCap b) ∧ (capturing .done 0 64 none).state = .done
      ∧ (b.state = .armed ∧ b.params.triggers.testBit 3 = true)
      ∧ (let d : Capture := { b with params := { defaultCaptureParams with triggers := 7 } }
         d.state = .armed ∧ d.params.triggers.testBit 3 = false)
      ∧ (capturing .triggered 0 64 (some 1)).state = .triggered := by
  unfold Claims.recording
  decide

theorem test_witness_CaptureKeepsRecordsAroundTheTrigger :
    let slow : Capture := { capturing .armed 0 64 none with params := { defaultCaptureParams with decimate := 2 } }
    (live.held = false ∧ live.cap.buffer.wf = true ∧ ¬ Claims.recording live)
      ∧ (Claims.recording (inCap slow) ∧ (slow.decim : Int) < (slow.params.decimate : Int) - 1)
      ∧ (∀ b ∈ [capturing .armed 255 64 none, capturing .armed 256 64 none, capturing .triggerPending 64 64 none,
            capturing .triggerPending 256 64 none, capturing .triggerPending 256 255 none,
            capturing .triggered 65 64 (some 2), capturing .triggered 255 64 (some 1)],
          b.buffer.wf = true ∧ (b.params.decimate : Int) - 1 ≤ b.decim ∧ b.params.pre ≤ 255)
      ∧ ((capturing .armed 255 64 none).valid < 256 ∧ (capturing .armed 256 64 none).valid = 256)
      ∧ (let b := capturing .triggerPending 64 64 none
         b.state = .triggerPending ∧ b.valid ≤ b.params.pre ∧ b.params.pre < 255)
      ∧ (let b := capturing .triggerPending 256 255 none; b.params.pre < b.valid ∧ b.params.pre = 255)
      ∧ (let b := capturing .triggered 65 64 (some 2); b.state = .triggered ∧ b.post = some 2 ∧ 1 ≤ 2 ∧ 1 < 2)
      ∧ (let b := capturing .triggered 255 64 (some 1); b.state = .triggered ∧ b.post = some 1)
      ∧ ((capturing .armed 0 64 none).params.triggers.testBit 0 = true
        ∧ ({ defaultCaptureParams with triggers := 8 } : CaptureParams).triggers.testBit 0 = false) := by
  unfold Claims.recording
  decide

/-- R193, and the worked sequence of spec/12: no post count from ARMED to the trigger. -/
theorem test_arm_clears_post :
    (after (.captureArm (cmd 0x60 1)) (inCap (capturing .done 256 64 (some 0)))).cap.post = none := by decide

/-- R192 at its ends: pre 255 is done with the trigger record, a post count of 1 with the next record. -/
theorem test_capture_ends_at_once :
    let t := after (.captureDone set0) (inCap (capturing .triggerPending 256 255 none))
    let u := after (.captureDone set0) (inCap (capturing .triggered 255 64 (some 1)))
    t.cap.state = .done ∧ t.cap.valid = 256 ∧ u.cap.state = .done ∧ u.cap.valid = 256 := by decide

end Sys2Proof.Tests
end

/-! # Group 9 (R37)

The temperature group: one staged word read and clamped, the Loop Processor at work as the statements write it, and O18. -/

namespace Sys2Proof.Machine

open Sys2Proof

/-! ## Clamping a staged word -/

/-- With its ends in order, the clamp is the nearer end as `max` and `min` write it. -/
theorem clampNat_eq_max_min {lo hi : Nat} (h : lo ≤ hi) (v : Nat) : clampNat lo hi v = max lo (min hi v) := by
  unfold clampNat
  split
  case isTrue below => omega
  case isFalse notBelow => split <;> omega

theorem tempClamp_le {lo : Nat} (h : lo ≤ 4095) (w : Nat) : Claims.tempClamp lo w ≤ 4095 :=
  Nat.max_le.mpr ⟨h, Nat.min_le_left 4095 w⟩

/-- A word of group 9 as the Loop Processor reads it: the clamped value, and the mark of a clamp that changed it. -/
theorem stagedU_temperature {lo : Nat} (h : lo ≤ 4095) (s : State) (n : Nat) :
    stagedU s.bus.image 9 n lo 4095 =
      (Claims.tempClamp lo (Claims.stagedTemp s n),
        Claims.changed (Claims.stagedTemp s n) (Claims.tempClamp lo (Claims.stagedTemp s n))) := by
  have hclamp : clampNat lo 4095 (Claims.stagedTemp s n) = Claims.tempClamp lo (Claims.stagedTemp s n) :=
    clampNat_eq_max_min h _
  have hread : stagedU s.bus.image 9 n lo 4095 = clampField lo 4095 (Claims.stagedTemp s n) := rfl
  rw [hread, clampField, hclamp, Claims.changed]

/-! ## The Loop Processor at work -/

/-- The Loop Processor's work put back: the event gone from transit, what it sent added, its own state alone changed. -/
theorem take_putLoop_eq_sent (s : State) (i : Instr) (w : W LoopProc) :
    (s.take i).putLoop w = Claims.sent s i w.out w.subs { s with loop := w.blk } := rfl

/-- R37: group 9 is applied at once and reported; of the Loop Processor only the thresholds change. -/
theorem exec_temperatureGroupApply_live {s : State} (h : s.held = false) :
    exec .temperatureGroupApply s = .next (Claims.sent s .temperatureGroupApply
      [.groupAppliedReport .temperature (stagedTemperatureParams s.bus.image).2] []
      { s with loop := { s.loop with temp := (stagedTemperatureParams s.bus.image).1 } }) := by
  have hexec : exec .temperatureGroupApply s = execTemperatureGroupApply s := rfl
  rw [hexec, execTemperatureGroupApply, takeLoop_live h, take_putLoop_eq_sent]
  rfl

/-- Settles O18: each threshold stays within 0..4095, so the clamp of the next one has its ends in order. -/
theorem temperatureGroupClampsThresholds : Obligations.TemperatureGroupClampsThresholds := by
  intro s hlive tb1 tb2 tb3 tb4 tb5 hyst h1 h2 h3 h4 h5 hh
  have le1 : tb1 ≤ 4095 := h1 ▸ tempClamp_le (Nat.zero_le _) _
  have le2 : tb2 ≤ 4095 := h2 ▸ tempClamp_le le1 _
  have le3 : tb3 ≤ 4095 := h3 ▸ tempClamp_le le2 _
  have le4 : tb4 ≤ 4095 := h4 ▸ tempClamp_le le3 _
  have hcopied : stagedTemperatureParams s.bus.image =
      ({ tb1 := tb1, tb2 := tb2, tb3 := tb3, tb4 := tb4, tb5 := tb5, hyst := hyst },
        Claims.changed (Claims.stagedTemp s 0) tb1 + Claims.changed (Claims.stagedTemp s 1) tb2
          + Claims.changed (Claims.stagedTemp s 2) tb3 + Claims.changed (Claims.stagedTemp s 3) tb4
          + Claims.changed (Claims.stagedTemp s 4) tb5 + Claims.changed (Claims.stagedTemp s 5) hyst) := by
    simp only [stagedTemperatureParams, stagedU_temperature (Nat.zero_le _), ← h1, ← hh,
      stagedU_temperature le1, ← h2, stagedU_temperature le2, ← h3, stagedU_temperature le3, ← h4,
      stagedU_temperature le4, ← h5]
  rw [exec_temperatureGroupApply_live hlive, hcopied]

end Sys2Proof.Machine

/-! # Shock handling (R97 to R102)

The arithmetic of chapter 6, the detection case by case, the feed-forward values, a whole set as the statements write it, and
O39. -/

namespace Sys2Proof.Machine

open Sys2Proof

/-! ## Saturation and limits -/

theorem satIncr_eq_min (n : Nat) : satIncr n = min 65535 (n + 1) := by
  unfold satIncr
  split <;> omega

theorem clampAbs_eq_max_min (l : Nat) (v : Int) : clampAbs l v = max (-(l : Int)) (min (l : Int) v) := by
  unfold clampAbs clamp
  split
  case isTrue below => omega
  case isFalse notBelow => split <;> omega

/-! ## Detection (R98, R99) -/

section

variable {m : Nat} {w : W Shock}

/-- R98: in QUIET, a set below K.START breaks the start run. -/
theorem detect_quiet_weak (hquiet : w.blk.shock = false) (hweak : m < w.blk.params.start) :
    Shock.detect m w = w.put { w.blk with startRun := 0 } := by
  simp only [Shock.detect, hquiet, Nat.not_le.mpr hweak, Bool.false_eq_true, if_false]

/-- R98: in QUIET, a set at or above K.START that follows none is counted. -/
theorem detect_quiet_first (hquiet : w.blk.shock = false) (hstrong : w.blk.params.start ≤ m)
    (hrun : w.blk.startRun = 0) : Shock.detect m w = w.put { w.blk with startRun := 1 } := by
  have hbelow : ¬ 2 ≤ 0 + 1 := by decide
  simp only [Shock.detect, hquiet, hstrong, hrun, hbelow, Bool.false_eq_true, if_true, if_false, Nat.zero_add]

/-- R98: in QUIET, a second set at or above K.START begins the shock. -/
theorem detect_quiet_second (hquiet : w.blk.shock = false) (hstrong : w.blk.params.start ≤ m)
    (hrun : 1 ≤ w.blk.startRun) : Shock.detect m w = Shock.begin_ w := by
  have hreached : 2 ≤ w.blk.startRun + 1 := Nat.succ_le_succ hrun
  simp only [Shock.detect, hquiet, hstrong, hreached, Bool.false_eq_true, if_true, if_false]

/-- R99: in SHOCK, a set at or above K.END restarts the quiet count. -/
theorem detect_shock_strong (hshock : w.blk.shock = true) (hstrong : w.blk.params.stop ≤ m) :
    Shock.detect m w = w.put { w.blk with quietCount := 0 } := by
  simp only [Shock.detect, hshock, Nat.not_lt.mpr hstrong, if_true, if_false]

/-- R99: in SHOCK, a set below K.END is counted while the count stays below K.QUIET. -/
theorem detect_shock_counted (hshock : w.blk.shock = true) (hweak : m < w.blk.params.stop)
    (hcount : min 65535 (w.blk.quietCount + 1) < w.blk.params.quiet) :
    Shock.detect m w = w.put { w.blk with quietCount := min 65535 (w.blk.quietCount + 1) } := by
  simp only [Shock.detect, hshock, hweak, satIncr_eq_min, Nat.not_le.mpr hcount, if_true, if_false]

/-- R99: in SHOCK, the set that brings the quiet count to K.QUIET ends the shock. -/
theorem detect_shock_last (hshock : w.blk.shock = true) (hweak : m < w.blk.params.stop)
    (hcount : w.blk.params.quiet ≤ min 65535 (w.blk.quietCount + 1)) : Shock.detect m w = Shock.finish w := by
  simp only [Shock.detect, hshock, hweak, satIncr_eq_min, hcount, if_true]

end

/-! ## Feed-forward (R101, R102) -/

/-- R101: the model's feed-forward value in the words of the statements. -/
theorem feedForward_eq_ffOf (p : ShockParams) (shock : Bool) (factor sh : Int) :
    (if (shock && decide (p.ffEnable = 1)) = true then feedForward p factor sh else 0) = Claims.ffOf p shock factor sh := by
  simp only [Claims.ffOf, feedForward, clampAbs_eq_max_min, Bool.and_eq_true, decide_eq_true_eq]

/-- R101, R102: both values are formed from the shock state and the shock signal after detection, and both are sent. -/
theorem feed_eq (w : W Shock) :
    Shock.feed w = (w.put (Claims.shocked w.blk w.blk.shock w.blk.shc)).sendAll
      (Claims.ffSent w.blk.params w.blk.shock w.blk.shc) := by
  simp only [Shock.feed, feedForward_eq_ffOf]
  rfl

/-! ## A whole set (R97) -/

/-- The Shock Monitor's work put back: the event gone from transit, what it sent added, its own state alone changed. -/
theorem take_putShock_eq_sent (s : State) (i : Instr) (w : W Shock) :
    (s.take i).putShock w = Claims.sent s i w.out w.subs { s with shock := w.blk } := rfl

section

variable {s : State} {x : SampleSet} {w : W Shock}

/-- R97: once the detection of a set is known, the state after the whole set. -/
theorem shockSet_of_detect (hlive : s.held = false)
    (hdetect : Shock.detect x.sh.natAbs (W.start { s.shock with shc := x.sh }) = w) :
    s.shockSet x = Claims.sent s (.shockSet x) (w.out ++ Claims.ffSent w.blk.params w.blk.shock w.blk.shc) w.subs
      { s with shock := Claims.shocked w.blk w.blk.shock w.blk.shc } := by
  rw [State.shockSet, takeShock_live hlive, take_putShock_eq_sent, Shock.takeSet, take_shock, hdetect, feed_eq]
  rfl

theorem exec_shockSet : exec (.shockSet x) s = .next (s.shockSet x) := rfl

/-- R98: the row of a shock's start is the whole set, where that set begins a shock. -/
theorem exec_shockStart_of_mem (h : .shockStart ∈ (s.shockSet x).subs) : exec (.shockStart x) s = .next (s.shockSet x) :=
  congrArg Host.Outcome.next (within_came h s)

/-- R99: the row of a shock's end is the whole set, where that set ends a shock. -/
theorem exec_shockEnd_of_mem (h : .shockEnd ∈ (s.shockSet x).subs) : exec (.shockEnd x) s = .next (s.shockSet x) :=
  congrArg Host.Outcome.next (within_came h s)

end

/-! ## O39 -/

/-- R98: the three cases of a set taken in QUIET. -/
theorem shockBeginsAtTwoStrongSets : Claims.ShockBeginsAtTwoStrongSets := by
  intro s x hlive hquiet
  refine ⟨fun hweak => ?weak, fun hstrong hrun => ?first, fun hstrong hrun => ?second⟩
  case weak =>
    rw [exec_shockSet, shockSet_of_detect hlive (detect_quiet_weak hquiet hweak)]
    simp only [Claims.shocked, start_blk, put_blk, put_out, put_subs, start_out, start_subs, List.nil_append, hquiet]
  case first =>
    rw [exec_shockSet, shockSet_of_detect hlive (detect_quiet_first hquiet hstrong hrun)]
    simp only [Claims.shocked, start_blk, put_blk, put_out, put_subs, start_out, start_subs, List.nil_append, hquiet]
  case second =>
    have hset := shockSet_of_detect hlive (detect_quiet_second hquiet hstrong hrun)
    have hbegun : .shockStart ∈ (s.shockSet x).subs := by rw [hset]; exact List.mem_singleton_self _
    rw [exec_shockStart_of_mem hbegun, hset, ← satIncr_eq_min]
    rfl

/-- R99: the three cases of a set taken in SHOCK. -/
theorem shockEndsAfterQuietSets : Claims.ShockEndsAfterQuietSets := by
  intro s x hlive hshock
  refine ⟨fun hstrong => ?strong, fun hweak hcount => ?counted, fun hweak hcount => ?last⟩
  case strong =>
    rw [exec_shockSet, shockSet_of_detect hlive (detect_shock_strong hshock hstrong)]
    simp only [Claims.shocked, start_blk, put_blk, put_out, put_subs, start_out, start_subs, List.nil_append, hshock]
  case counted =>
    rw [exec_shockSet, shockSet_of_detect hlive (detect_shock_counted hshock hweak hcount)]
    simp only [Claims.shocked, start_blk, put_blk, put_out, put_subs, start_out, start_subs, List.nil_append, hshock]
  case last =>
    have hset := shockSet_of_detect hlive (detect_shock_last hshock hweak hcount)
    have hended : .shockEnd ∈ (s.shockSet x).subs := by rw [hset]; exact List.mem_singleton_self _
    rw [exec_shockEnd_of_mem hended, hset]
    rfl

/-- Settles O39: the cases of a set are those of the detection, in QUIET by R98 and in SHOCK by R99. -/
theorem shockBeginsAndEnds : Obligations.ShockBeginsAndEnds :=
  ⟨shockBeginsAtTwoStrongSets, shockEndsAfterQuietSets⟩

end Sys2Proof.Machine

/-! # Trace Capture Unit: its commands (R193)

The two answers the unit gives to an offer, the branches of each command, and O59. -/

namespace Sys2Proof.Machine

open Sys2Proof

/-! ## Taken or refused (R193) -/

/-- The Trace Capture Unit's work put back: the event gone from transit, what it sent added, its own state alone changed. -/
theorem take_putCap_eq_sent (s : State) (i : Instr) (w : W Capture) :
    (s.take i).putCap w = Claims.sent s i w.out w.subs { s with cap := w.blk } := rfl

section

variable {s : State} {i : Instr} {c : Posted} {f : State → W Capture} {v : Word}

/-- A command that the unit takes and completes OK leaves the queue with the completion on its way. -/
theorem offerCap_of_complete {b : Capture} (hlive : s.held = false)
    (htaken : f (s.take i) = (W.start b).complete c.tag c.code .ok v) :
    s.offerCap i c f = (Claims.sent s i [Claims.doneOf c .ok v] [] { s with cap := b }).retire c := by
  rw [offerCap_live hlive, htaken, take_putCap_eq_sent, complete_ans, start_ans, answered_taken]
  rfl

/-- A command that the unit refuses is completed by the Command Queue, and the unit stays as it was. -/
theorem offerCap_of_refuse {r : Result} (hlive : s.held = false)
    (hrefused : f (s.take i) = (W.start s.cap).refuse r v) : s.offerCap i c f = Claims.refusedNow s i c r v := by
  rw [offerCap_live hlive, hrefused, take_putCap_eq_sent, refuse_ans, answered_refused]
  rfl

/-- CAPTURE ARM in the words of the statements, once the unit's answer is known. -/
theorem capOk_captureArm {b : Capture} (hlive : s.held = false)
    (htaken : Capture.arm c s.cap = (W.start b).complete c.tag c.code .ok v) : Claims.capOk s (.captureArm c) c v b :=
  congrArg Host.Outcome.next (offerCap_of_complete hlive htaken)

/-- CAPTURE TRIGGER in the words of the statements, once the unit's answer is known. -/
theorem capOk_captureTrigger {b : Capture} (hlive : s.held = false)
    (htaken : Capture.triggerCommand c s.cap = (W.start b).complete c.tag c.code .ok v) :
    Claims.capOk s (.captureTrigger c) c v b :=
  congrArg Host.Outcome.next (offerCap_of_complete hlive htaken)

/-- CAPTURE STOP in the words of the statements, once the unit's answer is known. -/
theorem capOk_captureStop {b : Capture} (hlive : s.held = false)
    (htaken : Capture.stopCommand c s.cap = (W.start b).complete c.tag c.code .ok v) : Claims.capOk s (.captureStop c) c v b :=
  congrArg Host.Outcome.next (offerCap_of_complete hlive htaken)

end

/-! ## The branches of each command (R192, R193) -/

/-- The model's test for recording is that of the statements. -/
theorem recording_iff (s : State) : s.cap.state.recording = true ↔ Claims.recording s := by
  simp only [CaptureState.recording, Claims.recording, Bool.or_eq_true, decide_eq_true_eq, or_assoc]

theorem recording_of_idle_or_done {st : CaptureState} (h : st = .idle ∨ st = .done) : st.recording = false := by
  rcases h with rfl | rfl <;> rfl

section

variable {b : Capture} (c : Posted)

theorem arm_of_recording (h : b.state.recording = true) : Capture.arm c b = (W.start b).refuse .busy 0 := if_pos h

theorem arm_of_not_recording (h : b.state.recording = false) :
    Capture.arm c b =
      (W.start { b with oldest := 0, valid := 0, decim := 0, trigger := none, post := none, state := .armed }).complete
        c.tag c.code .ok 0 :=
  if_neg (Bool.eq_false_iff.mp h)

/-- R192: an armed unit takes a trigger whose bit is set. -/
theorem trigger_of_armed {n : Nat} (harmed : b.state = .armed) (hbit : b.params.triggers.testBit n = true) :
    b.trigger_ n = { b with state := .triggerPending } := if_pos ⟨harmed, hbit⟩

/-- R192: a trigger whose bit is clear is ignored. -/
theorem trigger_of_bit_clear {n : Nat} (hbit : b.params.triggers.testBit n = false) : b.trigger_ n = b :=
  if_neg fun h => Bool.eq_false_iff.mp hbit h.2

/-- R192: a unit that is not armed ignores every trigger. -/
theorem trigger_of_not_armed {n : Nat} (hstate : b.state ≠ .armed) : b.trigger_ n = b := if_neg fun h => hstate h.1

theorem triggerCommand_of_idle (h : b.state = .idle) : Capture.triggerCommand c b = (W.start b).refuse .notReady 0 :=
  if_pos h

/-- The command is taken as a trigger of bit 3, which leaves the unit as b'. -/
theorem triggerCommand_of_not_idle {b' : Capture} (h : b.state ≠ .idle) (heffect : b.trigger_ 3 = b') :
    Capture.triggerCommand c b = (W.start b').complete c.tag c.code .ok 0 := by
  rw [Capture.triggerCommand, if_neg h, heffect]

theorem stopCommand_of_recording (h : b.state.recording = true) :
    Capture.stopCommand c b =
      (W.start { b with state := .idle, post := none }).complete c.tag c.code .ok (natWord b.valid) := by
  rw [Capture.stopCommand, if_pos h]

theorem stopCommand_of_not_recording (h : b.state.recording = false) :
    Capture.stopCommand c b = (W.start b).complete c.tag c.code .ok (natWord b.valid) := by
  rw [Capture.stopCommand, if_neg (Bool.eq_false_iff.mp h)]

end

/-! ## O59 -/

/-- Settles O59, command by command and state by state as R193 tabulates them. -/
theorem captureCommandsArmTriggerStop : Obligations.CaptureCommandsArmTriggerStop := by
  intro s c hlive
  refine ⟨fun hrest => ?armAtRest, fun hrec => ?armRecording, fun hidle => ?triggerIdle,
    fun harmed => ⟨fun hbit => ?triggerSet, fun hbit => ?triggerClear⟩, fun hpast => ?triggerPast,
    fun hrec => ?stopRecording, fun hrest => ?stopAtRest⟩
  case armAtRest => exact capOk_captureArm hlive (arm_of_not_recording c (recording_of_idle_or_done hrest))
  case armRecording =>
    exact congrArg Host.Outcome.next (offerCap_of_refuse hlive (arm_of_recording c ((recording_iff s).mpr hrec)))
  case triggerIdle => exact congrArg Host.Outcome.next (offerCap_of_refuse hlive (triggerCommand_of_idle c hidle))
  case triggerSet =>
    have hready : s.cap.state ≠ .idle := by simp [harmed]
    exact capOk_captureTrigger hlive (triggerCommand_of_not_idle c hready (trigger_of_armed harmed hbit))
  case triggerClear =>
    have hready : s.cap.state ≠ .idle := by simp [harmed]
    exact capOk_captureTrigger hlive (triggerCommand_of_not_idle c hready (trigger_of_bit_clear hbit))
  case triggerPast =>
    have hready : s.cap.state ≠ .idle := by rcases hpast with h | h | h <;> simp [h]
    have hunarmed : s.cap.state ≠ .armed := by rcases hpast with h | h | h <;> simp [h]
    exact capOk_captureTrigger hlive (triggerCommand_of_not_idle c hready (trigger_of_not_armed hunarmed))
  case stopRecording => exact capOk_captureStop hlive (stopCommand_of_recording c ((recording_iff s).mpr hrec))
  case stopAtRest => exact capOk_captureStop hlive (stopCommand_of_not_recording c (recording_of_idle_or_done hrest))

end Sys2Proof.Machine
